-- ==== Sys2Proof/Word.lean ====
section
/-! DEFINITION. The word types of the FCC: a command word, a PCM sample, a real word (spec rules R54, R55, R80). -/

namespace Sys2Proof

/-- A command word presented at the command port, and the width of a register as the host reads it (rules R21, R80). -/
abbrev Word := BitVec 32

/-- A word of XMEM, HMEM or OMEM: a 16-bit two's-complement sample (rule R54). -/
abbrev Sample := BitVec 16

/-- A word of BUFA or BUFB, and the PEAK register: the bits of one binary64 value (rule R55). -/
abbrev RealWord := BitVec 64

end Sys2Proof
end

