-- ==== Sys2Proof/Syntax.lean ====
section
/-! DEFINITION. The fifteen commands of the opcode map with their operands (spec rules R82 to R88), and the four
pseudo-instructions of the assembler (rule R94). -/

namespace Sys2Proof

/-- A complex buffer operand: BUFA or BUFB (rules R84, R87). -/
inductive Buf where
  | A
  | B
  deriving DecidableEq, Repr

/-- The transform sign `sgn`: +1 or −1 (rules R85, R87). -/
inductive Sgn where
  | plus
  | minus
  deriving DecidableEq, Repr

/-- The sample memory PREP reads: X is XMEM with LD, H is HMEM with LI (rules R86, R87). -/
inductive Src where
  | X
  | H
  deriving DecidableEq, Repr

/-- A command, one constructor per row of the opcode map (rule R88). An immediate is a natural number, as rule R87
gives it; `WellFormed` asks that it fits its 24-bit field. -/
inductive Instr where
  /-- Do nothing (rule R200). -/
  | nop
  /-- End the run (rule R201). -/
  | halt
  /-- Set the dry-signal length LD (rule R150). -/
  | setld (imm : Nat)
  /-- Set the impulse-response length LI (rule R151). -/
  | setli (imm : Nat)
  /-- Choose the minimal transform length (rule R152). -/
  | setn
  /-- Set the transform length to 2^imm (rule R153). -/
  | setk (imm : Nat)
  /-- Convert and zero-pad one PCM signal into buffer `b` (rule R154). -/
  | prep (b : Buf) (src : Src)
  /-- Bit-reversal permutation of buffer `b` (rule R130). -/
  | bitrev (b : Buf)
  /-- All butterfly stages on buffer `b` (rule R131). -/
  | bfly (b : Buf) (sgn : Sgn)
  /-- The whole transform of buffer `b` (rule R132). -/
  | fft (b : Buf) (sgn : Sgn)
  /-- Element-wise complex product of the two buffers, over buffer `b` (rule R170). -/
  | cmul (b : Buf)
  /-- Divide every word of buffer `b` by N (rule R180). -/
  | scale (b : Buf)
  /-- Peak absolute real part of buffer `b` into PEAK (rule R181). -/
  | peak (b : Buf)
  /-- Divide every word of buffer `b` by PEAK (rule R182). -/
  | norm (b : Buf)
  /-- Convert the first L real parts of buffer `b` to samples in OMEM (rule R183). -/
  | render (b : Buf)
  deriving DecidableEq, Repr

/-- The pseudo-instructions of the assembler (rules R94, R202 to R205): text only, no encoding of their own. -/
inductive Pseudo where
  | fwd (b : Buf)
  | inv (b : Buf)
  | ifft (b : Buf)
  | conv
  deriving DecidableEq, Repr

end Sys2Proof
end

