-- ==== Sys2Proof/WellFormed.lean ====
section
/-! DEFINITION. Which commands have an encoding: an immediate must fit the 24-bit field of format I (spec rules R83,
R93). Every other operand is a choice between two values and fits its one bit by its type. -/

namespace Sys2Proof

/-- The immediate fits bits 23:0 (rule R87: "a natural number below 2^24"; rule R93). -/
def immFits (imm : Nat) : Bool := decide (imm < 2 ^ 24)

/-- The check, command by command. -/
def wellFormed : Instr → Bool
  | .nop => true
  | .halt => true
  | .setld imm => immFits imm
  | .setli imm => immFits imm
  | .setn => true
  | .setk imm => immFits imm
  | .prep _ _ => true
  | .bitrev _ => true
  | .bfly _ _ => true
  | .fft _ _ => true
  | .cmul _ => true
  | .scale _ => true
  | .peak _ => true
  | .norm _ => true
  | .render _ => true

/-- A command that has a word. -/
abbrev WellFormed (i : Instr) : Prop := wellFormed i = true

end Sys2Proof
end

