-- ==== Sys2Proof/Decode.lean ====
section
/-! DEFINITION. The opcode map as a table of rows, the decoder that reads it, and the encoder (spec rules R80 to R92). -/

namespace Sys2Proof

/-! ## Operand assembly (rule R87) -/

/-- Bits 31:24 (rule R81). -/
def opField (w : Word) : BitVec 8 := w.extractLsb' 24 8

/-- `imm = zext(w[23:0])`. -/
def immOf (w : Word) : Nat := (w.extractLsb' 0 24).toNat

/-- `b = A if w[0] = 0 else B`. -/
def bufOf (w : Word) : Buf := if w.getLsbD 0 then .B else .A

/-- `sgn = +1 if w[1] = 0 else −1`. -/
def sgnOf (w : Word) : Sgn := if w.getLsbD 1 then .minus else .plus

/-- `src = X if w[1] = 0 else H`. -/
def srcOf (w : Word) : Src := if w.getLsbD 1 then .H else .X

/-! ## The opcode map (rule R88) -/

/-- A row of the opcode map: a word is the row's command exactly when `w AND mask = pat` (rule R88), and then `build`
takes the operands from it (rule R87). -/
structure Row where
  mnemonic : String
  pat : Word
  mask : Word
  build : Word → Instr

/-- `w AND mask = match` (rule R88). -/
def rowMatches (w : Word) (r : Row) : Bool := w &&& r.mask == r.pat

/-- The fifteen rows (rule R88), in the table's order. -/
def opcodeRows : List Row := [
  ⟨"NOP", 0x00000000#32, 0xFFFFFFFF#32, fun _ => .nop⟩,
  ⟨"HALT", 0x01000000#32, 0xFFFFFFFF#32, fun _ => .halt⟩,
  ⟨"SETLD", 0x10000000#32, 0xFF000000#32, fun w => .setld (immOf w)⟩,
  ⟨"SETLI", 0x11000000#32, 0xFF000000#32, fun w => .setli (immOf w)⟩,
  ⟨"SETN", 0x12000000#32, 0xFFFFFFFF#32, fun _ => .setn⟩,
  ⟨"SETK", 0x13000000#32, 0xFF000000#32, fun w => .setk (immOf w)⟩,
  ⟨"PREP", 0x14000000#32, 0xFFFFFFFC#32, fun w => .prep (bufOf w) (srcOf w)⟩,
  ⟨"BITREV", 0x20000000#32, 0xFFFFFFFE#32, fun w => .bitrev (bufOf w)⟩,
  ⟨"BFLY", 0x21000000#32, 0xFFFFFFFC#32, fun w => .bfly (bufOf w) (sgnOf w)⟩,
  ⟨"FFT", 0x22000000#32, 0xFFFFFFFC#32, fun w => .fft (bufOf w) (sgnOf w)⟩,
  ⟨"CMUL", 0x30000000#32, 0xFFFFFFFE#32, fun w => .cmul (bufOf w)⟩,
  ⟨"SCALE", 0x40000000#32, 0xFFFFFFFE#32, fun w => .scale (bufOf w)⟩,
  ⟨"PEAK", 0x41000000#32, 0xFFFFFFFE#32, fun w => .peak (bufOf w)⟩,
  ⟨"NORM", 0x42000000#32, 0xFFFFFFFE#32, fun w => .norm (bufOf w)⟩,
  ⟨"RENDER", 0x43000000#32, 0xFFFFFFFE#32, fun w => .render (bufOf w)⟩]

/-! ## Decoding (rules R89, R90) -/

/-- Why a word is illegal (rule R90, cases (a) and (b)). -/
inductive Illegal where
  /-- The op value is not in the table. -/
  | unknownOp (op : BitVec 8)
  /-- The op value is in the table, and a bit of its format's must-be-zero field is one. -/
  | nonzeroField (op : BitVec 8)
  deriving DecidableEq, Repr

/-- The op value of some row. -/
def opKnown (op : BitVec 8) : Bool := opcodeRows.any fun r => opField r.pat == op

/-- The decoder: find the row with `w AND mask = match` and extract its operands; a word that matches no row is illegal
(rules R89, R90). It reads no state and is total on 32-bit words. -/
def decode (w : Word) : Except Illegal Instr :=
  match opcodeRows.find? (rowMatches w) with
  | some r => .ok (r.build w)
  | none => if opKnown (opField w) then .error (.nonzeroField (opField w)) else .error (.unknownOp (opField w))

/-- The host's question about an opcode-table word: the decoder's answer to the word whose bits are `w`, the bits above
`nbits` zero. A command is one word with no byte order (rules R61, R80), so the table's numbering is the word's own. -/
def decodeTableWord (nbits w : Nat) : Option Instr :=
  match decode (BitVec.ofNat 32 (w % 2 ^ nbits)) with
  | .ok i => some i
  | .error _ => none

/-! ## Encoding (rules R82 to R86, R93: match OR operand bits) -/

/-- Bit 0: 0 selects A, 1 selects B (rule R84). -/
def bufBit : Buf → Word
  | .A => 0#32
  | .B => 1#32

/-- Bit 1: 0 means +1, 1 means −1 (rule R85). -/
def sgnBit : Sgn → Word
  | .plus => 0#32
  | .minus => 2#32

/-- Bit 1: 0 selects XMEM, 1 selects HMEM (rule R86). -/
def srcBit : Src → Word
  | .X => 0#32
  | .H => 2#32

/-- The word of a well-formed command: `match OR operand bits` (rule R93). -/
def encode : Instr → Word
  | .nop => 0x00000000#32
  | .halt => 0x01000000#32
  | .setld imm => 0x10000000#32 ||| BitVec.ofNat 32 imm
  | .setli imm => 0x11000000#32 ||| BitVec.ofNat 32 imm
  | .setn => 0x12000000#32
  | .setk imm => 0x13000000#32 ||| BitVec.ofNat 32 imm
  | .prep b src => 0x14000000#32 ||| srcBit src ||| bufBit b
  | .bitrev b => 0x20000000#32 ||| bufBit b
  | .bfly b sgn => 0x21000000#32 ||| sgnBit sgn ||| bufBit b
  | .fft b sgn => 0x22000000#32 ||| sgnBit sgn ||| bufBit b
  | .cmul b => 0x30000000#32 ||| bufBit b
  | .scale b => 0x40000000#32 ||| bufBit b
  | .peak b => 0x41000000#32 ||| bufBit b
  | .norm b => 0x42000000#32 ||| bufBit b
  | .render b => 0x43000000#32 ||| bufBit b

end Sys2Proof
end

