-- ==== Sys2Proof/Config.lean ====
section
/-! DEFINITION. What the spec leaves open: the capacity KMAX (rule R6) and the free values (rules R56, R100, R183, R261;
93_implementation_defined.md U4 to U7). A free value has no body: nothing in Lean can evaluate it, so a claim that holds of
the model holds whatever the hardware puts there. -/

namespace Sys2Proof

/-- The capacity exponent of the machine `State.reset` describes: 4, the value of the spec's test vectors (rule R6).
DESIGN CHOICE (log entry 1): the spec leaves KMAX open. KMAX is the field `State.kmax`, which no step changes, so a
statement over every state is a statement over every KMAX; only statements about `State.reset` see this number. -/
def Config.resetKmax : Fin 26 := 4

/-- The 16-bit word a sample memory (space number 1, 2 or 5) holds at an index nothing has written since power-up
(rule R56, U6): unspecified, and the same on every read until written. Free value, log entry 2. -/
opaque Config.powerUpSample (space index : Nat) : Sample

/-- The 64-bit word a buffer memory (space number 3 or 4) holds at a physical index nothing has written since power-up
(rule R56, U6). Free value, log entry 2. -/
opaque Config.powerUpReal (space index : Nat) : RealWord

/-- Sign (bit 51) and payload (bits 50:0) of the quiet NaN that one arithmetic operation returns (rule R100, U4).
`draw` is the number of the command among those that draw free values (the field `State.draws`), `site` names the
operation inside the command, so that no two operations of a run share a draw. Free value, log entry 3. -/
opaque Config.freeNaN (draw : Nat) (site : List Nat) : BitVec 52

/-- The word RENDER writes at OMEM index `index` for a sample whose product with 32768.0 is not finite (rule R183, U5).
Free value, log entry 4. -/
opaque Config.freeSample (draw index : Nat) : Sample

/-- What an output word holds after a reset cut a RENDER short (rule R261, U7). Free value, log entry 5. -/
opaque Config.havocSample (draw index : Nat) : Sample

/-- What a buffer word holds after a reset cut a command short (rule R261, U7). Free value, log entry 5. -/
opaque Config.havocReal (draw index : Nat) : RealWord

/-- A twiddle ROM row outside 1..25 (column 0 is P, column 1 is Q). The spec tabulates rows 1 to 25 (rule R108) and no
command reads another while K ≤ KMAX (rule R57); the free value stands for a row that does not exist in states no run
reaches. Log entry 6. -/
opaque Config.romOutside (column stage : Nat) : RealWord

end Sys2Proof
end

