-- ==== Sys2Proof/Machine/State.lean ====
section
/-! DEFINITION. The state of the FCC: the architectural state of rule R20, the capacity KMAX of rule R6, and the host's
moves and free-value counter the model adds (log entries 1, 3, 7). -/

namespace Sys2Proof.Machine

/-! ## The host's side (rules R58 to R62, R266) -/

/-- A word as a port carries it: 16 bits for spaces 1, 2 and 5, 64 bits for spaces 3 and 4 and for PEAK, 32 bits for the
other registers (rules R59, R60). -/
inductive HostWord where
  | w16 (v : Sample)
  | w32 (v : Word)
  | w64 (v : RealWord)
  deriving DecidableEq, Repr

/-- One interaction of the host with the idle FCC: a row of the host table (rule R266), or the reset during a command of
rule R261. Space and index are plain numbers, so that an access the ports refuse (rule R62) can be written down. -/
inductive HostMove where
  /-- `HostCommand(w)`: present a command word (rule R61). -/
  | command (w : Word)
  /-- `HostWrite(sp, a, v)` (rule R59). -/
  | write (space index : Nat) (v : HostWord)
  /-- `HostRead(sp, a)`; space 0 is the register port, the index then a register number (rules R59, R60). -/
  | read (space index : Nat)
  /-- Reset while the engine is idle (rule R260). -/
  | reset
  /-- Present the command word and reset while it executes (rule R261). -/
  | resetDuring (w : Word)
  deriving DecidableEq, Repr

/-! ## Fault causes, faults and refusals of the model -/

/-- The four causes of the fault latch (rule R231). Taking one is a next state (`State.raise`), not an end of the run
of the model. -/
inductive FaultCode where
  /-- Illegal command word. -/
  | eill
  /-- A length exceeds the capacity of the memories. -/
  | ecap
  /-- A signal length is zero where a convolution length is needed. -/
  | eempty
  /-- A length exceeds the current transform length N = 2^K. -/
  | efit
  deriving DecidableEq, Repr

/-- Reasons for which the model stops with a fault: none. No constructor exists, because every command has an effect, a
fault of the FCC is the latch of rule R234 (a next state), and no command forms an index outside its memory (rule R57).
Safe: nothing is cut short. -/
inductive Fault where
  deriving DecidableEq, Repr

/-- Reasons for which the model refuses an instruction. -/
inductive Refusal where
  /-- Raised by an arm of `exec` whose instruction has no meaning yet (no arm is in this case). Safe: the model stops
  where the hardware goes on. -/
  | notModelled (mnemonic : String)
  deriving DecidableEq, Repr

/-! ## Memory -/

/-- A word-addressed memory: the words written since power-up, by index. Canonical form (`Mem.wf`): indices strictly
rising. An index that is not listed has not been written and holds no value the spec gives (rule R56), so no entry can
repeat the value of an unlisted one; what a read of it returns is a free value (`State.bank`, `State.samples`). -/
abbrev Mem (α : Type) := List (Nat × α)

/-- The canonical form: indices strictly rising. -/
abbrev Mem.wf {α : Type} (m : Mem α) : Prop := (m.map Prod.fst).Pairwise (· < ·)

/-! ## State -/

/-- The machine. The working registers of rule R22 are not state between steps, so no field holds one. -/
structure State where
  /-- KMAX, the capacity exponent of this machine (rule R6). No step changes it. -/
  kmax : Fin 26
  /-- STATUS bit 0 (rule R24). -/
  halt : Bool
  /-- STATUS bit 1 (rule R24). -/
  fault : Bool
  /-- STATUS bit 2 (rule R24). -/
  ovf : Bool
  /-- STATUS bit 3 (rule R24). -/
  pkz : Bool
  /-- Register 1, the fault code (rule R25). -/
  fcode : BitVec 4
  /-- Register 2, the value recorded with the fault (rule R26). -/
  finfo : Word
  /-- Register 3, CMDCNT at the fault (rule R27). -/
  fpc : Word
  /-- Register 4, the number of commands completed: the program counter (rule R23). -/
  cmdcnt : Word
  /-- Register 5, len(dry) (rule R29). -/
  ld : BitVec 26
  /-- Register 6, len(IR) (rule R30). -/
  li : BitVec 26
  /-- Register 7, log2 of the transform length (rule R28). -/
  k : BitVec 5
  /-- Register 8, the number of valid samples in OMEM (rule R31). -/
  olen : BitVec 26
  /-- Register 9, the result of the last PEAK command (rule R32). -/
  peak : RealWord
  /-- Space 1, the dry signal (rule R50). -/
  xmem : Mem Sample
  /-- Space 2, the impulse response (rule R50). -/
  hmem : Mem Sample
  /-- Space 3, complex buffer A, by physical index (rules R50, R52). -/
  bufa : Mem RealWord
  /-- Space 4, complex buffer B, by physical index (rules R50, R52). -/
  bufb : Mem RealWord
  /-- Space 5, the rendered output (rule R50). -/
  omem : Mem Sample
  /-- The host's moves still to come, the next one first. The model's own field (log entry 7): the host is outside the
  FCC, and the FCC keeps no queue (rule R20). -/
  pending : List HostMove
  /-- What the last host read returned; none if it was refused (rule R62). The model's own field (log entry 7). -/
  reply : Option HostWord
  /-- How many times free values have been drawn. The model's own field (log entry 3). -/
  draws : Nat
  deriving DecidableEq, Repr

/-- The machine right after power-up reset: every register at the value of rule R34, no memory word written (rules R56,
R260), no host move waiting. -/
def State.reset : State where
  kmax := Config.resetKmax
  halt := false
  fault := false
  ovf := false
  pkz := false
  fcode := 0#4
  finfo := 0#32
  fpc := 0#32
  cmdcnt := 0#32
  ld := 0#26
  li := 0#26
  k := 0#5
  olen := 0#26
  peak := 0x0000000000000000#64
  xmem := []
  hmem := []
  bufa := []
  bufb := []
  omem := []
  pending := []
  reply := none
  draws := 0

end Sys2Proof.Machine
end

