-- ==== Sys2Proof/Machine/Ops.lean ====
section
/-! DEFINITION. The named operations over memory and registers: memory words (spec rules R50 to R56), the loop ranges of
rule R15, register writes, completion (rule R23), fault entry (rule R234) and reset (rule R260). -/

namespace Sys2Proof.Machine

/-! ## Memory words -/

/-- The word written at an index, if one was. -/
def Mem.fetch {α : Type} : Mem α → Nat → Option α
  | [], _ => none
  | (b, w) :: m, a => if a = b then some w else Mem.fetch m a

/-- Write the word at an index, keeping indices strictly rising. -/
def Mem.store {α : Type} : Mem α → Nat → α → Mem α
  | [], a, v => [(a, v)]
  | (b, w) :: m, a, v =>
    if a < b then (a, v) :: (b, w) :: m
    else if a = b then (a, v) :: m
    else (b, w) :: Mem.store m a v

/-- A memory together with what its unwritten words hold (rule R56): the view a unit works on. Not state: `State` holds
the written words only. -/
structure Bank (α : Type) where
  cells : Mem α
  unwritten : Nat → α

/-- `MemRead` (rule R13): the word at an index; an unwritten word reads as whatever it holds (rule R56). -/
def Bank.read {α : Type} (d : Bank α) (a : Nat) : α := (d.cells.fetch a).getD (d.unwritten a)

/-- `MemWrite` (rule R13). -/
def Bank.write {α : Type} (d : Bank α) (a : Nat) (v : α) : Bank α := { d with cells := d.cells.store a v }

/-- `data_b[i]` for an engine word index i ≥ 1: physical word i − 1 (rules R13, R52). -/
def Bank.data {α : Type} (d : Bank α) (i : Nat) : α := d.read (i - 1)

/-- `data_b[i] <- v` for an engine word index i ≥ 1 (rules R13, R52). -/
def Bank.setData {α : Type} (d : Bank α) (i : Nat) (v : α) : Bank α := d.write (i - 1) v

/-- `x_b(p)` for a position p from 0: the pair (`data_b[2p+1]`, `data_b[2p+2]`) (rules R13, R51). -/
def Bank.position {α : Type} (d : Bank α) (p : Nat) : α × α := (d.data (2 * p + 1), d.data (2 * p + 2))

/-! ## Loop ranges (rule R15) -/

/-- `for v in a..b step s`: a, a+s, a+2s, ... while at most b; empty when a > b. -/
def rangeStep (a b s : Nat) : List Nat := List.range' a ((b + s - a) / s) s

/-- `for v in a..b`. -/
def rangeTo (a b : Nat) : List Nat := rangeStep a b 1

/-! ## Memories of a state -/

/-- Buffer b as the engine sees it (rules R50, R56). -/
def State.bank (s : State) : Buf → Bank RealWord
  | .A => ⟨s.bufa, Config.powerUpReal 3⟩
  | .B => ⟨s.bufb, Config.powerUpReal 4⟩

/-- Put a buffer's words back. -/
def State.setBank (s : State) (b : Buf) (d : Bank RealWord) : State :=
  match b with
  | .A => { s with bufa := d.cells }
  | .B => { s with bufb := d.cells }

/-- XMEM or HMEM (rules R50, R56). -/
def State.samples (s : State) : Src → Bank Sample
  | .X => ⟨s.xmem, Config.powerUpSample 1⟩
  | .H => ⟨s.hmem, Config.powerUpSample 2⟩

/-- Put a sample memory's words back. Only the host's data port does so (rule R73). -/
def State.setSamples (s : State) (src : Src) (d : Bank Sample) : State :=
  match src with
  | .X => { s with xmem := d.cells }
  | .H => { s with hmem := d.cells }

/-- OMEM (rules R50, R56). -/
def State.output (s : State) : Bank Sample := ⟨s.omem, Config.powerUpSample 5⟩

/-- Put OMEM's words back. -/
def State.setOutput (s : State) (d : Bank Sample) : State := { s with omem := d.cells }

/-! ## Register writes -/

/-- `LD <- v` (rule R29). -/
def State.setLd (s : State) (v : Nat) : State := { s with ld := BitVec.ofNat 26 v }

/-- `LI <- v` (rule R30). -/
def State.setLi (s : State) (v : Nat) : State := { s with li := BitVec.ofNat 26 v }

/-- `K <- v` (rule R28). -/
def State.setK (s : State) (v : Nat) : State := { s with k := BitVec.ofNat 5 v }

/-- `OLEN <- v` (rule R31). -/
def State.setOlen (s : State) (v : Nat) : State := { s with olen := BitVec.ofNat 26 v }

/-- `PEAK <- v` (rule R32). -/
def State.setPeak (s : State) (v : RealWord) : State := { s with peak := v }

/-- A command that draws free values has drawn them; the next one draws others (log entry 3). -/
def State.drawn (s : State) : State := { s with draws := s.draws + 1 }

/-- What the last host read returned (log entry 7). -/
def State.setReply (s : State) (r : Option HostWord) : State := { s with reply := r }

/-- The host's moves still to come (log entry 7). -/
def State.setPending (s : State) (ms : List HostMove) : State := { s with pending := ms }

/-- `CMDCNT <- (CMDCNT + 1) mod 2^32`, the last action of every command that completes (rules R16, R23). -/
def State.complete (s : State) : State := { s with cmdcnt := s.cmdcnt + 1#32 }

/-! ## Fault entry and reset -/

/-- The code FCODE takes (rule R231). -/
def faultCode : FaultCode → BitVec 4
  | .eill => 1#4
  | .ecap => 2#4
  | .eempty => 3#4
  | .efit => 4#4

/-- `raise F(info)`: exactly the four writes of rule R234. Control goes nowhere; the engine stops. -/
def State.raise (s : State) (f : FaultCode) (info : Nat) : State :=
  { s with fault := true, fcode := faultCode f, finfo := BitVec.ofNat 32 info, fpc := s.cmdcnt }

/-- Reset while idle: every register takes its value of rule R34, no memory word changes (rule R260). It is the only way
back from a fault or a HALT (rule R236). -/
def State.resetRegisters (s : State) : State :=
  { s with
    halt := false, fault := false, ovf := false, pkz := false, fcode := 0#4, finfo := 0#32, fpc := 0#32,
    cmdcnt := 0#32, ld := 0#26, li := 0#26, k := 0#5, olen := 0#26, peak := 0x0000000000000000#64 }

end Sys2Proof.Machine
end

