-- ==== Sys2Proof/Machine/Operands.lean ====
section
/-! DEFINITION. What the operands and registers stand for inside a command: the derived quantities N and L (spec rules
R12, R28), NMAX (rule R6), the other buffer (rule R13), the length register of a source (rule R86). -/

namespace Sys2Proof.Machine

/-- `other(b)` (rule R13). -/
def otherBuf : Buf → Buf
  | .A => .B
  | .B => .A

/-- K as a number (rule R28). -/
def State.kNat (s : State) : Nat := s.k.toNat

/-- N = 2^K, the transform length (rules R12, R28). -/
def State.txLen (s : State) : Nat := 2 ^ s.kNat

/-- NMAX = 2^KMAX, the capacity (rule R6). -/
def State.nmax (s : State) : Nat := 2 ^ s.kmax.val

/-- `len = LD if src = X else LI` (rules R86, R154). -/
def State.srcLen (s : State) : Src → Nat
  | .X => s.ld.toNat
  | .H => s.li.toNat

/-- `LD ≥ 1 and LI ≥ 1`, the check before L is formed (rules R152, R183). -/
def State.lensPositive (s : State) : Bool := decide (1 ≤ s.ld.toNat) && decide (1 ≤ s.li.toNat)

/-- L = LD + LI − 1, the linear-convolution length (rule R12); only formed when both lengths are at least 1 (rule R233). -/
def State.convLen (s : State) : Nat := s.ld.toNat + s.li.toNat - 1

/-- The least natural k with 2^k ≥ L: 0 for L = 1, otherwise the bit length of L − 1 (rule R152). -/
def leastPow (len : Nat) : Nat := if len ≤ 1 then 0 else (len - 1).log2 + 1

end Sys2Proof.Machine
end

