-- ==== Sys2Proof/Machine/Binary64.lean ====
section
/-! DEFINITION. The format F: IEEE 754 binary64 with round-to-nearest-even, every operation rounded once, quiet NaN results
of unspecified sign and payload (spec rules R55, R100 to R104). A finite value is held exactly as an integer number of
units of 2^−1074, the least subnormal; each operation computes exactly on integers and is narrowed once, by
`roundUnits`. -/

namespace Sys2Proof.Machine

/-! ## Reading a bit pattern (rule R55) -/

/-- Bit 63, the sign. -/
def f64Sign (x : RealWord) : Bool := x.getLsbD 63

/-- Bits 62:52, the biased exponent. -/
def f64Exp (x : RealWord) : Nat := (x.extractLsb' 52 11).toNat

/-- Bits 51:0, the fraction. -/
def f64Frac (x : RealWord) : Nat := (x.extractLsb' 0 52).toNat

/-- A NaN: exponent all ones, fraction not zero. -/
def f64IsNaN (x : RealWord) : Bool := f64Exp x == 2047 && f64Frac x != 0

/-- An infinity: exponent all ones, fraction zero. -/
def f64IsInf (x : RealWord) : Bool := f64Exp x == 2047 && f64Frac x == 0

/-- Neither a NaN nor an infinity. -/
def f64IsFinite (x : RealWord) : Bool := f64Exp x != 2047

/-- `fiszero(x)`: +0 or −0 (rule R101). -/
def f64IsZero (x : RealWord) : Bool := x.extractLsb' 0 63 == 0#63

/-- The number of units of 2^−1074 in 1.0. -/
def f64One : Nat := 2 ^ 1074

/-- The magnitude in units of 2^−1074: the fraction alone for a subnormal (exponent 0), else the fraction with its hidden
one, shifted by exponent − 1. An infinity's pattern gives 2^2098, above every finite magnitude, which is how `f64Gt`
orders it. -/
def f64Mag (x : RealWord) : Nat :=
  if f64Exp x = 0 then f64Frac x else (2 ^ 52 + f64Frac x) * 2 ^ (f64Exp x - 1)

/-- The value in units of 2^−1074. -/
def f64Int (x : RealWord) : Int := if f64Sign x then -(f64Mag x : Int) else (f64Mag x : Int)

/-! ## Rounding (rule R100) -/

/-- The integer nearest to n / d, ties to even. -/
def roundEven (n d : Nat) : Nat :=
  if 2 * (n % d) < d then n / d
  else if d < 2 * (n % d) then n / d + 1
  else n / d + n / d % 2

/-- The bits of an infinity without its sign. -/
def f64InfMag : Nat := 2047 * 2 ^ 52

/-- The binary64 magnitude bits (exponent and fraction) nearest to n / d units of 2^−1074, ties to even. The quantum is
2^shift units: shift 0 for subnormals and the first normal binade, else what leaves 53 significant bits; a significand
that rounds up to 2^53 carries into the exponent field by itself. Too large a result is infinity. -/
def roundUnits (n d : Nat) : Nat :=
  let shift := (n / d).log2 - 52
  min (shift * 2 ^ 52 + roundEven n (d * 2 ^ shift)) f64InfMag

/-- Put a sign in front of magnitude bits. -/
def f64Pack (neg : Bool) (mag : Nat) : RealWord := BitVec.ofBool neg ++ BitVec.ofNat 63 mag

/-- ±infinity. -/
def f64Inf (neg : Bool) : RealWord := f64Pack neg f64InfMag

/-- ±0. -/
def f64Zero (neg : Bool) : RealWord := f64Pack neg 0

/-- The quiet NaN one operation returns: sign and payload are free (rule R100, U4). -/
def f64QuietNaN (free : BitVec 52) : RealWord := free.extractLsb' 51 1 ++ 0xFFF#12 ++ free.extractLsb' 0 51

/-! ## The operations (rules R100 to R103)

`nan` is the word this operation returns when its result is a NaN. -/

/-- `fadd`. The sum of two zeros of unlike sign, and x − x, are +0; (−0) + (−0) is −0. -/
def f64Add (nan x y : RealWord) : RealWord :=
  if f64IsNaN x || f64IsNaN y then nan
  else if f64IsInf x then (if f64IsInf y && f64Sign x != f64Sign y then nan else x)
  else if f64IsInf y then y
  else
    let t := f64Int x + f64Int y
    if t = 0 then f64Zero (f64Sign x && f64Sign y) else f64Pack (decide (t < 0)) (roundUnits t.natAbs 1)

/-- `fneg`: inverts bit 63, on every bit pattern (rule R101). -/
def f64Neg (x : RealWord) : RealWord := x ^^^ 0x8000000000000000#64

/-- `fabs`: clears bit 63, on every bit pattern (rule R101). -/
def f64Abs (x : RealWord) : RealWord := x &&& 0x7FFFFFFFFFFFFFFF#64

/-- `fsub`: the sum with the second operand's sign inverted. -/
def f64Sub (nan x y : RealWord) : RealWord := f64Add nan x (f64Neg y)

/-- `fmul`. The sign is the exclusive-or of the operand signs; 0·∞ is a NaN. -/
def f64Mul (nan x y : RealWord) : RealWord :=
  let neg := f64Sign x != f64Sign y
  if f64IsNaN x || f64IsNaN y then nan
  else if f64IsInf x || f64IsInf y then (if f64IsZero x || f64IsZero y then nan else f64Inf neg)
  else f64Pack neg (roundUnits (f64Mag x * f64Mag y) f64One)

/-- `fdiv`. The sign is the exclusive-or of the operand signs; 0/0 and ∞/∞ are NaNs, a nonzero value over a zero is an
infinity. -/
def f64Div (nan x y : RealWord) : RealWord :=
  let neg := f64Sign x != f64Sign y
  if f64IsNaN x || f64IsNaN y then nan
  else if f64IsInf x then (if f64IsInf y then nan else f64Inf neg)
  else if f64IsInf y then f64Zero neg
  else if f64IsZero y then (if f64IsZero x then nan else f64Inf neg)
  else f64Pack neg (roundUnits (f64Mag x * f64One) (f64Mag y))

/-- `fgt`: false on a NaN; +0 and −0 are equal; +∞ exceeds every finite value (rule R101). -/
def f64Gt (x y : RealWord) : Bool := !f64IsNaN x && !f64IsNaN y && decide (f64Int x > f64Int y)

/-- `i2f` (rule R102). -/
def f64OfInt (n : Int) : RealWord := f64Pack (decide (n < 0)) (roundUnits (n.natAbs * f64One) 1)

/-- `f2i`: truncation toward zero of a finite value; none for a NaN or an infinity (rule R103). -/
def f64ToInt (x : RealWord) : Option Int := if f64IsFinite x then some ((f64Int x).tdiv f64One) else none

end Sys2Proof.Machine
end

