-- ==== Sys2Proof/Machine/TwiddleRom.lean ====
section
/-! DEFINITION. The twiddle ROM: the constants P[s] and Q[s] of each stage s in 1..25 (spec rule R108). -/

namespace Sys2Proof.Machine

/-- `P[s]`: the binary64 value nearest to −2·sin²(π/2^s) (rule R108). -/
def romP : Nat → RealWord
  | 1 => 0xC000000000000000#64
  | 2 => 0xBFF0000000000000#64
  | 3 => 0xBFD2BEC333018867#64
  | 4 => 0xBFB37CA1866B95CF#64
  | 5 => 0xBF93AD06011469FB#64
  | 6 => 0xBF73B92E176D6D31#64
  | 7 => 0xBF53BC390D250439#64
  | 8 => 0xBF33BCFBD9979A27#64
  | 9 => 0xBF13BD2C8DA49511#64
  | 10 => 0xBEF3BD38BAB6D94C#64
  | 11 => 0xBED3BD3BC5FC5AB4#64
  | 12 => 0xBEB3BD3C88CDCA13#64
  | 13 => 0xBE93BD3CB98226DC#64
  | 14 => 0xBE73BD3CC5AF3E1D#64
  | 15 => 0xBE53BD3CC8BA83EE#64
  | 16 => 0xBE33BD3CC97D5562#64
  | 17 => 0xBE13BD3CC9AE09BF#64
  | 18 => 0xBDF3BD3CC9BA36D7#64
  | 19 => 0xBDD3BD3CC9BD421C#64
  | 20 => 0xBDB3BD3CC9BE04EE#64
  | 21 => 0xBD93BD3CC9BE35A2#64
  | 22 => 0xBD73BD3CC9BE41CF#64
  | 23 => 0xBD53BD3CC9BE44DB#64
  | 24 => 0xBD33BD3CC9BE459D#64
  | 25 => 0xBD13BD3CC9BE45CE#64
  | s => Config.romOutside 0 s

/-- `Q[s]`: the binary64 value nearest to sin(2π/2^s) (rule R108). -/
def romQ : Nat → RealWord
  | 1 => 0x0000000000000000#64
  | 2 => 0x3FF0000000000000#64
  | 3 => 0x3FE6A09E667F3BCD#64
  | 4 => 0x3FD87DE2A6AEA963#64
  | 5 => 0x3FC8F8B83C69A60B#64
  | 6 => 0x3FB917A6BC29B42C#64
  | 7 => 0x3FA91F65F10DD814#64
  | 8 => 0x3F992155F7A3667E#64
  | 9 => 0x3F8921D1FCDEC784#64
  | 10 => 0x3F7921F0FE670071#64
  | 11 => 0x3F6921F8BECCA4BA#64
  | 12 => 0x3F5921FAAEE6472E#64
  | 13 => 0x3F4921FB2AECB360#64
  | 14 => 0x3F3921FB49EE4EA6#64
  | 15 => 0x3F2921FB51AEB57C#64
  | 16 => 0x3F1921FB539ECF31#64
  | 17 => 0x3F0921FB541AD59E#64
  | 18 => 0x3EF921FB5439D73A#64
  | 19 => 0x3EE921FB544197A1#64
  | 20 => 0x3ED921FB544387BA#64
  | 21 => 0x3EC921FB544403C1#64
  | 22 => 0x3EB921FB544422C2#64
  | 23 => 0x3EA921FB54442A83#64
  | 24 => 0x3E9921FB54442C73#64
  | 25 => 0x3E8921FB54442CEF#64
  | s => Config.romOutside 1 s

end Sys2Proof.Machine
end

