-- ==== Sys2Proof/Machine/Units.lean ====
section
/-! DEFINITION. The arithmetic units: the record of real operations the rules use, its binary64 reading, the complex
multiplier, the butterfly, the twiddle recurrence and the bit-reverse function (spec rules R7, R14, R100 to R112). The
units are written over the record, as rule R7 allows, so that the same text has the binary64 reading the machine runs and
the exact-real reading of `Machine/Exact.lean`. -/

namespace Sys2Proof.Machine

/-- The place of one arithmetic operation inside a command. Only a NaN result depends on it (log entry 3). -/
abbrev Site := List Nat

/-- The operations on a format F (rule R14; the note at the end of 40_arith_units.md). `f2i` answers none for a value
that is not finite. -/
structure Arith (F : Type) where
  fadd : Site → F → F → F
  fsub : Site → F → F → F
  fmul : Site → F → F → F
  fdiv : Site → F → F → F
  fneg : F → F
  fabs : F → F
  fgt : F → F → Bool
  fiszero : F → Bool
  i2f : Int → F
  f2i : F → Option Int
  zero : F
  one : F
  c32768 : F
  romP : Nat → F
  romQ : Nat → F

/-- The NaN that the operation at a site of the command with draw number `draw` returns. -/
def nanAt (draw : Nat) (site : Site) : RealWord := f64QuietNaN (Config.freeNaN draw site)

/-- F = binary64 (rules R7, R100 to R104, R108), for the command with draw number `draw`. -/
def binary64 (draw : Nat) : Arith RealWord where
  fadd site := f64Add (nanAt draw site)
  fsub site := f64Sub (nanAt draw site)
  fmul site := f64Mul (nanAt draw site)
  fdiv site := f64Div (nanAt draw site)
  fneg := f64Neg
  fabs := f64Abs
  fgt := f64Gt
  fiszero := f64IsZero
  i2f := f64OfInt
  f2i := f64ToInt
  zero := 0x0000000000000000#64
  one := 0x3FF0000000000000#64
  c32768 := 0x40E0000000000000#64
  romP := romP
  romQ := romQ

/-- `CM(a, b, c, d)`: (a·c − b·d, a·d + b·c), six roundings (rule R106). -/
def cm {F : Type} (A : Arith F) (site : Site) (a b c d : F) : F × F :=
  (A.fsub (4 :: site) (A.fmul (0 :: site) a c) (A.fmul (1 :: site) b d),
   A.fadd (5 :: site) (A.fmul (2 :: site) a d) (A.fmul (3 :: site) b c))

/-- `BF(u, v, w)`: (upper', lower') = (u + w·v, u − w·v) (rule R107). -/
def bf {F : Type} (A : Arith F) (site : Site) (u v w : F × F) : (F × F) × (F × F) :=
  let t := cm A site w.1 w.2 v.1 v.2
  ((A.fadd (8 :: site) u.1 t.1, A.fadd (9 :: site) u.2 t.2),
   (A.fsub (6 :: site) u.1 t.1, A.fsub (7 :: site) u.2 t.2))

/-- The recurrence seeds (WPR, WPI) of a stage (rule R109). -/
def seeds {F : Type} (A : Arith F) (sgn : Sgn) (stage : Nat) : F × F :=
  (A.romP stage,
   match sgn with
   | .plus => A.romQ stage
   | .minus => A.fneg (A.romQ stage))

/-- `REC(WR, WI, WPR, WPI)`: WI' uses the old WR, and the old component is added last (rule R110). -/
def twiddleStep {F : Type} (A : Arith F) (site : Site) (w wp : F × F) : F × F :=
  (A.fadd (3 :: site) (A.fsub (2 :: site) (A.fmul (0 :: site) w.1 wp.1) (A.fmul (1 :: site) w.2 wp.2)) w.1,
   A.fadd (7 :: site) (A.fadd (6 :: site) (A.fmul (4 :: site) w.2 wp.1) (A.fmul (5 :: site) w.1 wp.2)) w.2)

/-- `rev_K(p)`: the K-bit binary representation of p read backwards (rule R112). -/
def rev : Nat → Nat → Nat
  | 0, _ => 0
  | k + 1, p => p % 2 * 2 ^ k + rev k (p / 2)

end Sys2Proof.Machine
end

