-- ==== Sys2Proof/Machine/Convolver.lean ====
section
/-! DEFINITION. The frequency-domain convolver: CMUL (spec rule R170). -/

namespace Sys2Proof.Machine

/-- Entry e of the destination becomes its product with entry e of the other buffer; all four words are read before
either is written. -/
def cmulAt {F : Type} (A : Arith F) (o : Bank F) (d : Bank F) (e : Nat) : Bank F :=
  let r := cm A [e] (d.data (2 * e - 1)) (d.data (2 * e)) (o.data (2 * e - 1)) (o.data (2 * e))
  (d.setData (2 * e - 1) r.1).setData (2 * e) r.2

/-- The element-wise product over the N entries. -/
def cmulBank {F : Type} (A : Arith F) (k : Nat) (o d : Bank F) : Bank F := (rangeTo 1 (2 ^ k)).foldl (cmulAt A o) d

/-- `CMUL b` (rule R170). -/
def execCmul (b : Buf) (s : State) : Host.Outcome State Fault Refusal :=
  .next (s.setBank b (cmulBank (binary64 s.draws) s.kNat (s.bank (otherBuf b)) (s.bank b))).drawn.complete

end Sys2Proof.Machine
end

