-- ==== Sys2Proof/Machine/FftEngine.lean ====
section
/-! DEFINITION. The FFT engine: BITREV, BFLY and FFT (spec rules R130 to R132). Word indices are the engine's one-based
ones (`Bank.data`); the orders are the written ones, which rule R138 lets a model fix. -/

namespace Sys2Proof.Machine

/-! ## BITREV (rule R130) -/

/-- Exchange the entries at positions p and q, both words of each, as bit patterns. -/
def swapEntries {F : Type} (d : Bank F) (p q : Nat) : Bank F :=
  let ar := d.data (2 * p + 1)
  let ai := d.data (2 * p + 2)
  let br := d.data (2 * q + 1)
  let bi := d.data (2 * q + 2)
  (((d.setData (2 * p + 1) br).setData (2 * p + 2) bi).setData (2 * q + 1) ar).setData (2 * q + 2) ai

/-- One turn of the loop of rule R130: swap when rev_K(p) > p. -/
def bitrevAt {F : Type} (k : Nat) (d : Bank F) (p : Nat) : Bank F :=
  if rev k p > p then swapEntries d p (rev k p) else d

/-- The bit-reversal permutation of a buffer of length 2^k. -/
def bitrevBank {F : Type} (k : Nat) (d : Bank F) : Bank F := (rangeTo 0 (2 ^ k - 1)).foldl (bitrevAt k) d

/-! ## BFLY (rule R131) -/

/-- The butterfly with upper entry at word I and lower entry at word J = I + MMAX, with twiddle factor w. -/
def butterflyAt {F : Type} (A : Arith F) (stage mmax : Nat) (w : F × F) (d : Bank F) (i : Nat) : Bank F :=
  let j := i + mmax
  let o := bf A [0, stage, i] (d.data i, d.data (i + 1)) (d.data j, d.data (j + 1)) w
  (((d.setData j o.2.1).setData (j + 1) o.2.2).setData i o.1.1).setData (i + 1) o.1.2

/-- The butterflies of one column M, one per block. -/
def columnBank {F : Type} (A : Arith F) (n stage m : Nat) (w : F × F) (d : Bank F) : Bank F :=
  (rangeStep m n (2 * 2 ^ stage)).foldl (butterflyAt A stage (2 ^ stage) w) d

/-- One turn of the column loop: the column's butterflies, then one step of the recurrence. -/
def columnStep {F : Type} (A : Arith F) (n : Nat) (sgn : Sgn) (stage : Nat) (st : Bank F × (F × F)) (m : Nat) : Bank F × (F × F) :=
  (columnBank A n stage m st.2 st.1, twiddleStep A [1, stage, m] st.2 (seeds A sgn stage))

/-- Stage S, with stage size 2^S, starting from the twiddle factor (1.0, 0.0). -/
def stageBank {F : Type} (A : Arith F) (n : Nat) (sgn : Sgn) (d : Bank F) (stage : Nat) : Bank F :=
  ((rangeStep 1 (2 ^ stage - 1) 2).foldl (columnStep A n sgn stage) (d, (A.one, A.zero))).1

/-- All K stages on a buffer of n = 2N real words. -/
def bflyBank {F : Type} (A : Arith F) (k : Nat) (sgn : Sgn) (d : Bank F) : Bank F :=
  (rangeTo 1 k).foldl (stageBank A (2 * 2 ^ k) sgn) d

/-! ## FFT (rule R132) -/

/-- BITREV then BFLY. -/
def fftBank {F : Type} (A : Arith F) (k : Nat) (sgn : Sgn) (d : Bank F) : Bank F := bflyBank A k sgn (bitrevBank k d)

/-! ## The commands -/

/-- `BITREV b` (rule R130). -/
def execBitrev (b : Buf) (s : State) : Host.Outcome State Fault Refusal :=
  .next (s.setBank b (bitrevBank s.kNat (s.bank b))).complete

/-- `BFLY b, sgn` (rule R131). -/
def execBfly (b : Buf) (sgn : Sgn) (s : State) : Host.Outcome State Fault Refusal :=
  .next (s.setBank b (bflyBank (binary64 s.draws) s.kNat sgn (s.bank b))).drawn.complete

/-- `FFT b, sgn` (rule R132). -/
def execFft (b : Buf) (sgn : Sgn) (s : State) : Host.Outcome State Fault Refusal :=
  .next (s.setBank b (fftBank (binary64 s.draws) s.kNat sgn (s.bank b))).drawn.complete

end Sys2Proof.Machine
end

