-- ==== Sys2Proof/Machine/Preparer.lean ====
section
/-! DEFINITION. The signal preparer: SETLD, SETLI, SETN, SETK and PREP (spec rules R150 to R154). Every check stands before
the first write (rule R15). -/

namespace Sys2Proof.Machine

/-- `SETLD imm` (rule R150). -/
def execSetld (imm : Nat) (s : State) : Host.Outcome State Fault Refusal :=
  if imm ≤ s.nmax then .next (s.setLd imm).complete else .next (s.raise .ecap imm)

/-- `SETLI imm` (rule R151). -/
def execSetli (imm : Nat) (s : State) : Host.Outcome State Fault Refusal :=
  if imm ≤ s.nmax then .next (s.setLi imm).complete else .next (s.raise .ecap imm)

/-- `SETN` (rule R152): EEMPTY before ECAP. -/
def execSetn (s : State) : Host.Outcome State Fault Refusal :=
  if s.lensPositive then
    if leastPow s.convLen ≤ s.kmax.val then .next (s.setK (leastPow s.convLen)).complete
    else .next (s.raise .ecap s.convLen)
  else .next (s.raise .eempty 0)

/-- `SETK imm` (rule R153). -/
def execSetk (imm : Nat) (s : State) : Host.Outcome State Fault Refusal :=
  if imm ≤ s.kmax.val then .next (s.setK imm).complete else .next (s.raise .ecap imm)

/-! ## PREP (rule R154) -/

/-- The real value of a sample: `fdiv(i2f(sext(w)), 32768.0)`. -/
def convertSample {F : Type} (A : Arith F) (k : Nat) (w : Sample) : F := A.fdiv [k] (A.i2f w.toInt) A.c32768

/-- Sample k into position k, imaginary part 0. -/
def placeSample {F : Type} (A : Arith F) (src : Bank Sample) (d : Bank F) (k : Nat) : Bank F :=
  (d.setData (2 * k + 1) (convertSample A k (src.read k))).setData (2 * k + 2) A.zero

/-- Position k filled with exactly 0.0. -/
def padPosition {F : Type} (A : Arith F) (d : Bank F) (k : Nat) : Bank F :=
  (d.setData (2 * k + 1) A.zero).setData (2 * k + 2) A.zero

/-- Both loops of rule R154: the samples 0..len−1, then the padding len..N−1 (a count of turns stands for the two
bounds, since len − 1 and N − 1 are not formed when a loop is empty). -/
def prepBank {F : Type} (A : Arith F) (k len : Nat) (src : Bank Sample) (d : Bank F) : Bank F :=
  (List.range' len (2 ^ k - len)).foldl (padPosition A) ((List.range len).foldl (placeSample A src) d)

/-- `PREP b, src` (rule R154). No conversion of a sample is a NaN, so nothing is drawn. -/
def execPrep (b : Buf) (src : Src) (s : State) : Host.Outcome State Fault Refusal :=
  if s.srcLen src ≤ s.txLen then
    .next (s.setBank b (prepBank (binary64 s.draws) s.kNat (s.srcLen src) (s.samples src) (s.bank b))).complete
  else .next (s.raise .efit (s.srcLen src))

end Sys2Proof.Machine
end

