-- ==== Sys2Proof/Machine/Flags.lean ====
section
/-! DEFINITION. STATUS and its four flags (spec rule R24): the one word the host reads, each flag's write, and the two
flag conditions (rules R181, R183). -/

namespace Sys2Proof.Machine

/-- STATUS as the host reads it: HALT, FAULT, OVF, PKZ in bits 0 to 3, bits 31:4 zero (rule R24). -/
def State.status (s : State) : Word := 0#28 ++ BitVec.ofBool s.pkz ++ BitVec.ofBool s.ovf ++ BitVec.ofBool s.fault ++ BitVec.ofBool s.halt

/-- HALT = 1 or FAULT = 1: command words are ignored (rules R24, R242). -/
def State.stopped (s : State) : Bool := s.halt || s.fault

/-- `HALT <- 1` (rule R201). -/
def State.setHalt (s : State) : State := { s with halt := true }

/-- `OVF <- v` (rule R183). -/
def State.setOvf (s : State) (v : Bool) : State := { s with ovf := v }

/-- `PKZ <- v` (rule R181). -/
def State.setPkz (s : State) (v : Bool) : State := { s with pkz := v }

/-- `t < −32768 or t > 32767`: the truncated sample does not fit 16 bits (rule R183). -/
def sampleOverflows (t : Int) : Bool := decide (t < -32768) || decide (t > 32767)

end Sys2Proof.Machine
end

