-- ==== Sys2Proof/Machine/Renderer.lean ====
section
/-! DEFINITION. The normalizer and renderer: SCALE, PEAK, NORM and RENDER (spec rules R180 to R183). -/

namespace Sys2Proof.Machine

/-! ## SCALE and NORM: one division per word of the active region -/

/-- `data_b[i] <- fdiv(data_b[i], q)`. -/
def divWord {F : Type} (A : Arith F) (q : F) (d : Bank F) (i : Nat) : Bank F := d.setData i (A.fdiv [i] (d.data i) q)

/-- Every word 1..2N divided by q. -/
def divBank {F : Type} (A : Arith F) (k : Nat) (q : F) (d : Bank F) : Bank F := (rangeTo 1 (2 * 2 ^ k)).foldl (divWord A q) d

/-- SCALE on a buffer: division by `i2f(N)` (rule R180). -/
def scaleBank {F : Type} (A : Arith F) (k : Nat) (d : Bank F) : Bank F := divBank A k (A.i2f ((2 ^ k : Nat) : Int)) d

/-- NORM on a buffer: division by the peak, unless the peak is zero (rule R182). -/
def normBank {F : Type} (A : Arith F) (k : Nat) (pk : F) (d : Bank F) : Bank F :=
  if A.fiszero pk then d else divBank A k pk d

/-! ## PEAK -/

/-- One turn of the scan: keep the larger of PK and the absolute real part of entry e (rule R181). -/
def peakAt {F : Type} (A : Arith F) (d : Bank F) (pk : F) (e : Nat) : F :=
  if A.fgt (A.fabs (d.data (2 * e - 1))) pk then A.fabs (d.data (2 * e - 1)) else pk

/-- The largest absolute real part of the N entries, from 0.0 (rule R181). -/
def peakBank {F : Type} (A : Arith F) (k : Nat) (d : Bank F) : F := (rangeTo 1 (2 ^ k)).foldl (peakAt A d) A.zero

/-! ## RENDER -/

/-- The sample word of the real value v at OMEM index k, and whether it overflows: `t mod 65536` for a finite product,
an unspecified word and an overflow for one that is not (rule R183). -/
def encodeSample {F : Type} (A : Arith F) (free : Nat → Sample) (k : Nat) (v : F) : Sample × Bool :=
  match A.f2i (A.fmul [k] v A.c32768) with
  | some t => (BitVec.ofInt 16 t, sampleOverflows t)
  | none => (free k, true)

/-- One turn of the loop: sample k, and the overflow so far. -/
def renderAt {F : Type} (A : Arith F) (free : Nat → Sample) (d : Bank F) (st : Bank Sample × Bool) (k : Nat) : Bank Sample × Bool :=
  let r := encodeSample A free k (d.data (2 * k + 1))
  (st.1.write k r.1, st.2 || r.2)

/-- The first `len` real parts into OMEM, and the overflow flag (rule R183). -/
def renderBank {F : Type} (A : Arith F) (free : Nat → Sample) (len : Nat) (d : Bank F) (o : Bank Sample) : Bank Sample × Bool :=
  (List.range len).foldl (renderAt A free d) (o, false)

/-! ## The commands -/

/-- `SCALE b` (rule R180). -/
def execScale (b : Buf) (s : State) : Host.Outcome State Fault Refusal :=
  .next (s.setBank b (scaleBank (binary64 s.draws) s.kNat (s.bank b))).drawn.complete

/-- `PEAK b` (rule R181). -/
def execPeak (b : Buf) (s : State) : Host.Outcome State Fault Refusal :=
  let pk := peakBank (binary64 s.draws) s.kNat (s.bank b)
  .next ((s.setPeak pk).setPkz (f64IsZero pk)).complete

/-- `NORM b` (rule R182): it tests the PEAK register, not PKZ; with a zero peak it writes nothing. -/
def execNorm (b : Buf) (s : State) : Host.Outcome State Fault Refusal :=
  if f64IsZero s.peak then .next s.complete
  else .next (s.setBank b (normBank (binary64 s.draws) s.kNat s.peak (s.bank b))).drawn.complete

/-- What RENDER does once its checks have passed (rule R183). -/
def renderInto (b : Buf) (s : State) : State :=
  let r := renderBank (binary64 s.draws) (Config.freeSample s.draws) s.convLen (s.bank b) s.output
  (((s.setOutput r.1).setOvf r.2).setOlen s.convLen).drawn.complete

/-- `RENDER b` (rule R183): EEMPTY before EFIT. -/
def execRender (b : Buf) (s : State) : Host.Outcome State Fault Refusal :=
  if s.lensPositive then
    if s.convLen ≤ s.txLen then .next (renderInto b s) else .next (s.raise .efit s.convLen)
  else .next (s.raise .eempty 0)

end Sys2Proof.Machine
end

