-- ==== Sys2Proof/Machine/System.lean ====
section
/-! DEFINITION. The system commands NOP and HALT (spec rules R200, R201). -/

namespace Sys2Proof.Machine

/-- `NOP` (rule R200): nothing but the count of completed commands. -/
def execNop (s : State) : Host.Outcome State Fault Refusal := .next s.complete

/-- `HALT` (rule R201): HALT itself completes. -/
def execHalt (s : State) : Host.Outcome State Fault Refusal := .next s.setHalt.complete

end Sys2Proof.Machine
end

