-- ==== Sys2Proof/Machine/Dispatch.lean ====
section
/-! DEFINITION. Which meaning each command has: one arm per row of the opcode map (spec rule R88). -/

namespace Sys2Proof.Machine

def exec (i : Instr) (s : State) : Host.Outcome State Fault Refusal :=
  match i with
  | .nop => Sys2Proof.Machine.execNop s
  | .halt => Sys2Proof.Machine.execHalt s
  | .setld imm => Sys2Proof.Machine.execSetld imm s
  | .setli imm => Sys2Proof.Machine.execSetli imm s
  | .setn => Sys2Proof.Machine.execSetn s
  | .setk imm => Sys2Proof.Machine.execSetk imm s
  | .prep b src => Sys2Proof.Machine.execPrep b src s
  | .bitrev b => Sys2Proof.Machine.execBitrev b s
  | .bfly b sgn => Sys2Proof.Machine.execBfly b sgn s
  | .fft b sgn => Sys2Proof.Machine.execFft b sgn s
  | .cmul b => Sys2Proof.Machine.execCmul b s
  | .scale b => Sys2Proof.Machine.execScale b s
  | .peak b => Sys2Proof.Machine.execPeak b s
  | .norm b => Sys2Proof.Machine.execNorm b s
  | .render b => Sys2Proof.Machine.execRender b s

end Sys2Proof.Machine
end

