-- ==== Sys2Proof/Machine/Ports.lean ====
section
/-! DEFINITION. The host's three ports and the two resets (spec rules R58 to R62, R242, R260, R261, R266). -/

namespace Sys2Proof.Machine

/-! ## Register port (rule R60) -/

/-- Register number r, zero-extended to 32 bits (64 bits for PEAK); none for a number that is not in the table of rule
R33 (refused, rule R62). -/
def registerPort (s : State) (r : Nat) : Option HostWord :=
  match r with
  | 0 => some (.w32 s.status)
  | 1 => some (.w32 (s.fcode.setWidth 32))
  | 2 => some (.w32 s.finfo)
  | 3 => some (.w32 s.fpc)
  | 4 => some (.w32 s.cmdcnt)
  | 5 => some (.w32 (s.ld.setWidth 32))
  | 6 => some (.w32 (s.li.setWidth 32))
  | 7 => some (.w32 (s.k.setWidth 32))
  | 8 => some (.w32 (s.olen.setWidth 32))
  | 9 => some (.w64 s.peak)
  | _ => none

/-! ## Data port (rule R59) -/

/-- `HostRead(sp, a)`: the word, or none where the access is refused (rule R62). Buffer indices are physical. -/
def hostRead (s : State) (space index : Nat) : Option HostWord :=
  match space with
  | 0 => registerPort s index
  | 1 => if index < s.nmax then some (.w16 ((s.samples .X).read index)) else none
  | 2 => if index < s.nmax then some (.w16 ((s.samples .H).read index)) else none
  | 3 => if index < 2 * s.nmax then some (.w64 ((s.bank .A).read index)) else none
  | 4 => if index < 2 * s.nmax then some (.w64 ((s.bank .B).read index)) else none
  | 5 => if index < s.nmax then some (.w16 (s.output.read index)) else none
  | _ => none

/-- `HostWrite(sp, a, v)`: XMEM, HMEM, BUFA and BUFB are writable; every other write (OMEM, a register, an index outside
the space, another space, a word of the wrong width) is refused and changes nothing (rules R59, R62). -/
def hostWrite (s : State) (space index : Nat) (v : HostWord) : State :=
  match space, v with
  | 1, .w16 x => if index < s.nmax then s.setSamples .X ((s.samples .X).write index x) else s
  | 2, .w16 x => if index < s.nmax then s.setSamples .H ((s.samples .H).write index x) else s
  | 3, .w64 x => if index < 2 * s.nmax then s.setBank .A ((s.bank .A).write index x) else s
  | 4, .w64 x => if index < 2 * s.nmax then s.setBank .B ((s.bank .B).write index x) else s
  | _, _ => s

/-! ## Command port (rule R61) -/

/-- `HostCommand(w)`: ignored when HALT = 1 or FAULT = 1 (rule R242); else decoded and executed as one step; an illegal
word raises EILL with the word (rules R90, R232). -/
def commandPort (w : Word) (s : State) : Host.Outcome State Fault Refusal :=
  if s.stopped then .next s
  else
    match decode w with
    | .ok i => exec i s
    | .error _ => .next (s.raise .eill w.toNat)

/-! ## Reset during a command (rule R261) -/

/-- The memory words a command's rule can write in a state, as a space and a count of words from index 0. -/
inductive Footprint where
  | nothing
  | buffer (b : Buf) (words : Nat)
  | outputs (samples : Nat)
  deriving DecidableEq, Repr

/-- What each command can write (rule R261's list): words 1..2N of its buffer, or OMEM[0..L−1]; nothing for a command
that writes no memory or would fault. -/
def footprint (i : Instr) (s : State) : Footprint :=
  match i with
  | .nop => .nothing
  | .halt => .nothing
  | .setld _ => .nothing
  | .setli _ => .nothing
  | .setn => .nothing
  | .setk _ => .nothing
  | .prep b src => if s.srcLen src ≤ s.txLen then .buffer b (2 * s.txLen) else .nothing
  | .bitrev b => .buffer b (2 * s.txLen)
  | .bfly b _ => .buffer b (2 * s.txLen)
  | .fft b _ => .buffer b (2 * s.txLen)
  | .cmul b => .buffer b (2 * s.txLen)
  | .scale b => .buffer b (2 * s.txLen)
  | .peak _ => .nothing
  | .norm b => if f64IsZero s.peak then .nothing else .buffer b (2 * s.txLen)
  | .render _ => if s.lensPositive && decide (s.convLen ≤ s.txLen) then .outputs s.convLen else .nothing

/-- Every word of the first `n` of a memory replaced by a free value. -/
def havocWords {α : Type} (free : Nat → α) (n : Nat) (d : Bank α) : Bank α :=
  (List.range n).foldl (fun e a => e.write a (free a)) d

/-- The words of a footprint hold unspecified values (rule R261, U7). -/
def State.havoc (s : State) (f : Footprint) : State :=
  match f with
  | .nothing => s
  | .buffer b n => s.setBank b (havocWords (Config.havocReal s.draws) n (s.bank b))
  | .outputs n => s.setOutput (havocWords (Config.havocSample s.draws) n s.output)

/-- What a reset during the command `w` leaves: the words the command could have written are unspecified, the registers
are at their reset values, all else is kept. A word the stopped engine ignores, or an illegal one, writes nothing. -/
def resetDuring (w : Word) (s : State) : State :=
  let f :=
    if s.stopped then .nothing
    else
      match decode w with
      | .ok i => footprint i s
      | .error _ => .nothing
  (s.havoc f).drawn.resetRegisters

/-! ## One move of the host (rule R266) -/

/-- The effect of one host move. -/
def applyMove (m : HostMove) (s : State) : Host.Outcome State Fault Refusal :=
  match m with
  | .command w => commandPort w s
  | .write space index v => .next (hostWrite s space index v)
  | .read space index => .next (s.setReply (hostRead s space index))
  | .reset => .next s.resetRegisters
  | .resetDuring w => .next (resetDuring w s)

/-- One step: the next host move, or nothing when the host makes none (the engine is idle and starts nothing by itself,
rules R260, R266, R268). -/
def nextMove (s : State) : Host.Outcome State Fault Refusal :=
  match s.pending with
  | [] => .next s
  | m :: ms => applyMove m (s.setPending ms)

/-- Present a table word at the command port as the very next move. -/
def presentNext (s : State) (nbits w : Nat) : State :=
  s.setPending (.command (BitVec.ofNat 32 (w % 2 ^ nbits)) :: s.pending)

end Sys2Proof.Machine
end

