-- ==== Sys2Proof/Machine/Step.lean ====
section
/-! DEFINITION. One step of the machine, and the placing of a word where the next step takes its command from. -/

namespace Sys2Proof.Machine

/-- One step: the host's next move (rules R9, R266). -/
def step : State → Host.Outcome State Fault Refusal := nextMove

/-- `s` with the word whose bits are `w` (those above `nbits` zero) presented next at the command port (rule R61). The
FCC fetches nothing (rule R23): the host presents each word, which this stands for (log entry 7). -/
def State.withFetchWord (s : State) (nbits w : Nat) : State := presentNext s nbits w

end Sys2Proof.Machine
end

