-- ==== Sys2Proof/Machine/Assembler.lean ====
section
/-! DEFINITION. The textual form of a command stream: assembler, pseudo-instructions and canonical disassembly (spec rules
R93 to R95, R202 to R205). Text is a list of characters. -/

namespace Sys2Proof.Machine

/-! ## Pseudo-instructions (rules R94, R202 to R205) -/

/-- The fixed sequence of commands a pseudo-instruction stands for. Forward is sgn = +1, inverse sgn = −1 (rule R134). -/
def expand : Pseudo → List Instr
  | .fwd b => [.fft b .plus]
  | .inv b => [.fft b .minus]
  | .ifft b => [.fft b .minus, .scale b]
  | .conv => [.setn, .prep .A .X, .prep .B .H, .fft .A .plus, .fft .B .plus, .cmul .A, .fft .A .minus, .scale .A, .peak .A,
      .norm .A, .render .A]

/-! ## Operand spellings (rule R93) -/

/-- `A` or `B`. -/
def bufText : Buf → List Char
  | .A => ['A']
  | .B => ['B']

/-- `+1` or `-1`. -/
def sgnText : Sgn → List Char
  | .plus => ['+', '1']
  | .minus => ['-', '1']

/-- `X` or `H`. -/
def srcText : Src → List Char
  | .X => ['X']
  | .H => ['H']

/-- The decimal digits of `n` in front of `acc`; `fuel` bounds their number. -/
def decimalOnto : Nat → Nat → List Char → List Char
  | 0, _, acc => acc
  | fuel + 1, n, acc =>
    if n < 10 then Char.ofNat (48 + n) :: acc else decimalOnto fuel (n / 10) (Char.ofNat (48 + n % 10) :: acc)

/-- An immediate in decimal, its canonical spelling (rule R95). -/
def immText (n : Nat) : List Char := decimalOnto (n + 1) n []

/-- The value of a hexadecimal digit. -/
def digitValue (c : Char) : Option Nat :=
  if 48 ≤ c.toNat ∧ c.toNat ≤ 57 then some (c.toNat - 48)
  else if 97 ≤ c.toNat ∧ c.toNat ≤ 102 then some (c.toNat - 87)
  else if 65 ≤ c.toNat ∧ c.toNat ≤ 70 then some (c.toNat - 55)
  else none

/-- Digits in a base, appended to a value read so far. -/
def digitsOnto (base : Nat) : Nat → List Char → Option Nat
  | n, [] => some n
  | n, c :: cs =>
    match digitValue c with
    | some v => if v < base then digitsOnto base (n * base + v) cs else none
    | none => none

/-- At least one digit. -/
def readDigits (base : Nat) (cs : List Char) : Option Nat := if cs.isEmpty then none else digitsOnto base 0 cs

/-- An immediate: decimal digits, or `0x` and hexadecimal digits; below 2^24 (rule R93). -/
def readImm (cs : List Char) : Option Nat :=
  let v :=
    match cs with
    | '0' :: 'x' :: hex => readDigits 16 hex
    | _ => readDigits 10 cs
  v.filter (· < 2 ^ 24)

/-- A buffer. -/
def readBuf (cs : List Char) : Option Buf := if cs = ['A'] then some .A else if cs = ['B'] then some .B else none

/-- A sign. -/
def readSgn (cs : List Char) : Option Sgn :=
  if cs = ['+', '1'] then some .plus else if cs = ['-', '1'] then some .minus else none

/-- A sample memory. -/
def readSrc (cs : List Char) : Option Src := if cs = ['X'] then some .X else if cs = ['H'] then some .H else none

/-! ## Lines -/

/-- No operand. -/
def operands0 (is : List Instr) : List (List Char) → Option (List Instr)
  | [] => some is
  | _ :: _ => none

/-- One operand. -/
def operands1 {α : Type} (read : List Char → Option α) (f : α → List Instr) : List (List Char) → Option (List Instr)
  | [x] => (read x).map f
  | _ => none

/-- Two operands. -/
def operands2 {α β : Type} (readA : List Char → Option α) (readB : List Char → Option β) (f : α → β → List Instr) :
    List (List Char) → Option (List Instr)
  | [x, y] => (readA x).bind fun a => (readB y).map (f a)
  | _ => none

/-- A mnemonic with how its operands are read. -/
abbrev AsmRow := List Char × (List (List Char) → Option (List Instr))

/-- The mnemonics of the fifteen commands and of the four pseudo-instructions, with their operand order (rules R93,
R94). -/
def asmRows : List AsmRow := [
  (['N', 'O', 'P'], operands0 [.nop]),
  (['H', 'A', 'L', 'T'], operands0 [.halt]),
  (['S', 'E', 'T', 'L', 'D'], operands1 readImm fun n => [.setld n]),
  (['S', 'E', 'T', 'L', 'I'], operands1 readImm fun n => [.setli n]),
  (['S', 'E', 'T', 'N'], operands0 [.setn]),
  (['S', 'E', 'T', 'K'], operands1 readImm fun n => [.setk n]),
  (['P', 'R', 'E', 'P'], operands2 readBuf readSrc fun b src => [.prep b src]),
  (['B', 'I', 'T', 'R', 'E', 'V'], operands1 readBuf fun b => [.bitrev b]),
  (['B', 'F', 'L', 'Y'], operands2 readBuf readSgn fun b sgn => [.bfly b sgn]),
  (['F', 'F', 'T'], operands2 readBuf readSgn fun b sgn => [.fft b sgn]),
  (['C', 'M', 'U', 'L'], operands1 readBuf fun b => [.cmul b]),
  (['S', 'C', 'A', 'L', 'E'], operands1 readBuf fun b => [.scale b]),
  (['P', 'E', 'A', 'K'], operands1 readBuf fun b => [.peak b]),
  (['N', 'O', 'R', 'M'], operands1 readBuf fun b => [.norm b]),
  (['R', 'E', 'N', 'D', 'E', 'R'], operands1 readBuf fun b => [.render b]),
  (['F', 'W', 'D'], operands1 readBuf fun b => expand (.fwd b)),
  (['I', 'N', 'V'], operands1 readBuf fun b => expand (.inv b)),
  (['I', 'F', 'F', 'T'], operands1 readBuf fun b => expand (.ifft b)),
  (['C', 'O', 'N', 'V'], operands0 (expand .conv))]

/-- White space inside a line. -/
def isBlank (c : Char) : Bool := c == ' ' || c == '\t' || c == '\r'

/-- A text without blanks at its ends. -/
def trimText (cs : List Char) : List Char := ((cs.dropWhile isBlank).reverse.dropWhile isBlank).reverse

/-- The parts of a text between separators. -/
def splitText (sep : Char) : List Char → List (List Char)
  | [] => [[]]
  | c :: cs =>
    if c = sep then [] :: splitText sep cs
    else
      match splitText sep cs with
      | [] => [[c]]
      | part :: parts => (c :: part) :: parts

/-- One line: a comment from `;` on is dropped, a blank line gives no command, a mnemonic that is not in the table or
operands that do not fit make the line an error (rule R93). -/
def assembleLine (line : List Char) : Option (List Instr) :=
  let text := trimText (line.takeWhile (· != ';'))
  if text.isEmpty then some []
  else
    let name := text.takeWhile fun c => !isBlank c
    let rest := trimText (text.dropWhile fun c => !isBlank c)
    let ops := if rest.isEmpty then [] else (splitText ',' rest).map trimText
    match asmRows.find? fun r => decide (r.1 = name) with
    | some r => r.2 ops
    | none => none

/-- Lines in order, each with its commands; none if some line is an error. -/
def assembleLines : List (List Char) → Option (List Instr)
  | [] => some []
  | l :: ls => (assembleLine l).bind fun is => (assembleLines ls).map fun js => is ++ js

/-- A text to the command words it stands for (rules R93, R94). -/
def assemble (text : List Char) : Option (List Word) := (assembleLines (splitText '\n' text)).map (List.map encode)

/-- The canonical line of a command (rule R95). -/
def disassemble : Instr → List Char
  | .nop => ['N', 'O', 'P']
  | .halt => ['H', 'A', 'L', 'T']
  | .setld imm => ['S', 'E', 'T', 'L', 'D', ' '] ++ immText imm
  | .setli imm => ['S', 'E', 'T', 'L', 'I', ' '] ++ immText imm
  | .setn => ['S', 'E', 'T', 'N']
  | .setk imm => ['S', 'E', 'T', 'K', ' '] ++ immText imm
  | .prep b src => ['P', 'R', 'E', 'P', ' '] ++ bufText b ++ [',', ' '] ++ srcText src
  | .bitrev b => ['B', 'I', 'T', 'R', 'E', 'V', ' '] ++ bufText b
  | .bfly b sgn => ['B', 'F', 'L', 'Y', ' '] ++ bufText b ++ [',', ' '] ++ sgnText sgn
  | .fft b sgn => ['F', 'F', 'T', ' '] ++ bufText b ++ [',', ' '] ++ sgnText sgn
  | .cmul b => ['C', 'M', 'U', 'L', ' '] ++ bufText b
  | .scale b => ['S', 'C', 'A', 'L', 'E', ' '] ++ bufText b
  | .peak b => ['P', 'E', 'A', 'K', ' '] ++ bufText b
  | .norm b => ['N', 'O', 'R', 'M', ' '] ++ bufText b
  | .render b => ['R', 'E', 'N', 'D', 'E', 'R', ' '] ++ bufText b

end Sys2Proof.Machine
end

