-- ==== Sys2Proof/Machine/Exact.lean ====
section
/-! DEFINITION. The exact-real reading of the units (spec rule R7) and the mathematics the transforms are measured against:
the discrete Fourier transform (rule R133), circular convolution (rule R172) and linear convolution (rule R210). No step
of the machine uses this file; each definition is a proposition. -/

namespace Sys2Proof.Machine

/-- A record of operations that is exact real arithmetic with the exact twiddle seeds: every value is finite and `f2i`
truncates toward zero (rules R7, R103, R111; the note at the end of 40_arith_units.md). -/
structure IsExact (A : Arith ℝ) : Prop where
  fadd : ∀ site x y, A.fadd site x y = x + y
  fsub : ∀ site x y, A.fsub site x y = x - y
  fmul : ∀ site x y, A.fmul site x y = x * y
  fdiv : ∀ site x y, A.fdiv site x y = x / y
  fneg : ∀ x, A.fneg x = -x
  fabs : ∀ x, A.fabs x = |x|
  fgt : ∀ x y, A.fgt x y = true ↔ x > y
  fiszero : ∀ x, A.fiszero x = true ↔ x = 0
  i2f : ∀ n : Int, A.i2f n = (n : ℝ)
  f2i : ∀ x, A.f2i x = some (if 0 ≤ x then ⌊x⌋ else ⌈x⌉)
  zero : A.zero = 0
  one : A.one = 1
  c32768 : A.c32768 = 32768
  romP : ∀ stage : Nat, A.romP stage = Real.cos (2 * Real.pi / 2 ^ stage) - 1
  romQ : ∀ stage : Nat, A.romQ stage = Real.sin (2 * Real.pi / 2 ^ stage)

/-- `x_b(p)`: the complex number at position p (rule R13). -/
def Bank.entry (d : Bank ℝ) (p : Nat) : ℂ := ⟨d.data (2 * p + 1), d.data (2 * p + 2)⟩

/-- The sign of the kernel's exponent: +1 or −1 (rules R87, R133). -/
def sgnInt : Sgn → Int
  | .plus => 1
  | .minus => -1

/-- X is the length-n transform of x with kernel exp(sgn·2πi·pq/n), unnormalized (rules R133, R135). -/
def IsDft (n : Nat) (sgn : Sgn) (x X : Nat → ℂ) : Prop :=
  ∀ q < n, X q = ∑ p ∈ Finset.range n, x p * Complex.exp ((sgnInt sgn : ℂ) * (2 * Real.pi * Complex.I * p * q / n))

/-- y is the length-n circular convolution of x and h (rule R172). -/
def IsCircularConv (n : Nat) (x h y : Nat → ℂ) : Prop :=
  ∀ m < n, y m = ∑ p ∈ Finset.range n, x p * h ((m + (n - p)) % n)

/-- y is `LinConv(x, h)` for sequences of lengths n and m (rule R210). -/
def IsLinearConv (n m : Nat) (x h y : Nat → ℂ) : Prop :=
  ∀ j < n + m - 1, y j = ∑ p ∈ Finset.Icc (j + 1 - m) (min j (n - 1)), x p * h (j - p)

/-- The real value of sample k of a sample memory: sext(w)/32768 (rule R212). -/
def IsSampleSeq (src : Bank Sample) (len : Nat) (x : Nat → ℂ) : Prop :=
  ∀ k < len, x k = ((src.read k).toInt : ℂ) / 32768

end Sys2Proof.Machine
end

