-- ==== Sys2Proof/Safety.lean ====
section
/-! DEFINITION. What counts as a sound state and a good run: the machine's invariant, the launch premises of rule R267, the
end of a run (rule R268), and the value a bit pattern stands for. -/

namespace Sys2Proof.Machine

/-- Every written index of a memory lies below its size (rules R50, R57). -/
def Mem.within {α : Type} (m : Mem α) (size : Nat) : Prop := ∀ c ∈ m, c.1 < size

/-- What holds of the state between steps: the bounds of rule R21, the fault record of rules R25 to R27 and R236, the
PEAK register of rule R32, and memories in canonical form and inside their spaces (rules R50, R57). -/
structure Inv (s : State) : Prop where
  k_le : s.kNat ≤ s.kmax.val
  ld_le : s.ld.toNat ≤ s.nmax
  li_le : s.li.toNat ≤ s.nmax
  olen_le : s.olen.toNat ≤ s.nmax
  fcode_iff : s.fcode ≠ 0#4 ↔ s.fault = true
  fcode_le : s.fcode.toNat ≤ 4
  no_fault_record : s.fault = false → s.finfo = 0#32 ∧ s.fpc = 0#32
  fault_pc : s.fault = true → s.fpc = s.cmdcnt
  one_end : ¬(s.halt = true ∧ s.fault = true)
  peak_number : f64IsNaN s.peak = false
  peak_sign : f64Sign s.peak = false
  pkz_zero : s.pkz = true → f64IsZero s.peak = true
  xmem_wf : s.xmem.wf
  hmem_wf : s.hmem.wf
  bufa_wf : s.bufa.wf
  bufb_wf : s.bufb.wf
  omem_wf : s.omem.wf
  xmem_in : s.xmem.within s.nmax
  hmem_in : s.hmem.within s.nmax
  bufa_in : s.bufa.within (2 * s.nmax)
  bufb_in : s.bufb.within (2 * s.nmax)
  omem_in : s.omem.within s.nmax

/-! ## Launch premises (rule R267) -/

/-- HALT = 0 and FAULT = 0. -/
def CleanEntry (s : State) : Prop := s.stopped = false

/-- Every register at its reset value. -/
def ResetEntry (s : State) : Prop := s.resetRegisters = s

/-- XMEM[0..n−1] and HMEM[0..m−1] hold given values. -/
def SamplesLoaded (s : State) (x h : List Sample) : Prop :=
  (∀ k (hk : k < x.length), s.xmem.fetch k = some x[k]) ∧ ∀ k (hk : k < h.length), s.hmem.fetch k = some h[k]

/-- Words 1..2·2^k of buffer b hold given values. -/
def BufferLoaded (s : State) (b : Buf) (k : Nat) (v : Nat → RealWord) : Prop :=
  ∀ i, 1 ≤ i → i ≤ 2 * 2 ^ k → (s.bank b).cells.fetch (i - 1) = some (v i)

/-- The host's moves are commands and reads only, with no data-port write and no reset between them. -/
def QuietHost (ms : List HostMove) : Prop := ∀ m ∈ ms, (∃ w, m = .command w) ∨ ∃ sp a, m = .read sp a

/-! ## The end of a run (rule R268) -/

/-- How a run has ended. -/
inductive RunEnd where
  /-- Ended by HALT. -/
  | halted
  /-- Ended by a fault. -/
  | faulted
  /-- The stream is exhausted and the engine idle. -/
  | exhausted
  deriving DecidableEq, Repr

/-- The command words of the current run that the host has still to present, in stream order. Data-port and register accesses
are no words of the stream. A reset begins another run, whose words are not this run's; a reset during a command presents one
last word of this run (rule R268; log entry 16). -/
def wordsLeft : List HostMove → List Word
  | [] => []
  | .command w :: ms => w :: wordsLeft ms
  | .write _ _ _ :: ms => wordsLeft ms
  | .read _ _ :: ms => wordsLeft ms
  | .reset :: _ => []
  | .resetDuring w :: _ => [w]

/-- The end a state shows, if the run has ended in it (rule R268, cases (a) to (c)). A word that has been presented has
completed when neither flag is set, since a step is atomic and a fault would have set FAULT. -/
def runEnd (s : State) : Option RunEnd :=
  if s.halt then some .halted
  else if s.fault then some .faulted
  else if (wordsLeft s.pending).isEmpty then some .exhausted
  else none

/-! ## The fault table and frames -/

/-- The table of causes of rule R232, command by command: the code a command raises in a state and what FINFO records; none
where it raises nothing. Written from the table, not from the meanings. -/
def faultOf (i : Instr) (s : State) : Option (FaultCode × Nat) :=
  match i with
  | .nop => none
  | .halt => none
  | .setld imm => if imm > 2 ^ s.kmax.val then some (.ecap, imm) else none
  | .setli imm => if imm > 2 ^ s.kmax.val then some (.ecap, imm) else none
  | .setn =>
    if s.ld = 0#26 ∨ s.li = 0#26 then some (.eempty, 0)
    else if s.ld.toNat + s.li.toNat - 1 > 2 ^ s.kmax.val then some (.ecap, s.ld.toNat + s.li.toNat - 1)
    else none
  | .setk imm => if imm > s.kmax.val then some (.ecap, imm) else none
  | .prep _ .X => if s.ld.toNat > 2 ^ s.k.toNat then some (.efit, s.ld.toNat) else none
  | .prep _ .H => if s.li.toNat > 2 ^ s.k.toNat then some (.efit, s.li.toNat) else none
  | .bitrev _ => none
  | .bfly _ _ => none
  | .fft _ _ => none
  | .cmul _ => none
  | .scale _ => none
  | .peak _ => none
  | .norm _ => none
  | .render _ =>
    if s.ld = 0#26 ∨ s.li = 0#26 then some (.eempty, 0)
    else if s.ld.toNat + s.li.toNat - 1 > 2 ^ s.k.toNat then some (.efit, s.ld.toNat + s.li.toNat - 1)
    else none

/-- The frame of a command that works on buffer b: with b, CMDCNT and the draw counter put back, the state is the one
before (so every register, flag, other memory and the host's side is unchanged); CMDCNT has counted one command; every
word of b outside the active region reads as before (rule R53). -/
structure BufferFrame (b : Buf) (s t : State) : Prop where
  rest : ({ t.setBank b (s.bank b) with cmdcnt := s.cmdcnt, draws := s.draws } : State) = s
  count : t.cmdcnt = s.cmdcnt + 1#32
  outside : ∀ a, 2 * s.txLen ≤ a → (t.bank b).read a = (s.bank b).read a

/-! ## Values -/

/-- A quiet NaN: a NaN whose highest fraction bit is one (rule R100; that this bit marks it is PRESUMED from IEEE 754, log
entry 3). -/
def f64IsQuietNaN (x : RealWord) : Bool := f64IsNaN x && x.getLsbD 51

/-- The rational value of a finite bit pattern (rule R55). -/
def f64Value (x : RealWord) : ℚ := (f64Int x : ℚ) / 2 ^ 1074

end Sys2Proof.Machine
end

