-- ==== Sys2Proof/Certificates/Slice0/Obligations.lean ====
section
/-! DEFINITION. The statements for the provers, from the spec's numbered rules. -/

open Sys2Proof Sys2Proof.Machine

/-! ## Encoding (30_encoding.md) -/

/-- Rules R87, R89, R93: decoding the word of a well-formed command gives the command back, with every operand at every
value its field admits. -/
def Obligations.DecodeUndoesEncode : Prop := ∀ i, WellFormed i → decode (encode i) = .ok i

/-- Rules R88, R95: a legal word is the word of exactly one command, the one it decodes to. -/
def Obligations.EncodeUndoesDecode : Prop := ∀ w i, decode w = .ok i → WellFormed i ∧ encode i = w

/-- Rule R89: a word that matches a row decodes to that row's command with the row's operands, a word that matches none is
illegal, and no word matches two of the fifteen rows. `decode` takes the word alone, so it reads no state. -/
def Obligations.DecoderFollowsTheOpcodeMap : Prop :=
  opcodeRows.length = 15 ∧
  (∀ w, ∀ r ∈ opcodeRows, w &&& r.mask = r.pat → decode w = .ok (r.build w)) ∧
  (∀ w, (∀ r ∈ opcodeRows, w &&& r.mask ≠ r.pat) → ∃ e, decode w = .error e) ∧
  (∀ w, ∀ r ∈ opcodeRows, ∀ r' ∈ opcodeRows, w &&& r.mask = r.pat → w &&& r'.mask = r'.pat → r.mnemonic = r'.mnemonic)

/-- Rule R87: the operands are taken from their bits and in no other way. -/
def Obligations.OperandsComeFromTheirBits : Prop :=
  ∀ w : Word, immOf w = w.toNat % 2 ^ 24 ∧ bufOf w = (if w.toNat % 2 = 0 then .A else .B) ∧
    sgnOf w = (if w.toNat / 2 % 2 = 0 then .plus else .minus) ∧ srcOf w = (if w.toNat / 2 % 2 = 0 then .X else .H)

/-- Rule R90: every word that matches no row raises EILL with FINFO = w when the engine accepts it, whatever else the state
is; case (a) is an op value outside the map, case (b) a nonzero bit in a must-be-zero field. -/
def Obligations.IllegalWordRaisesEill : Prop :=
  ∀ w : Word, (∀ r ∈ opcodeRows, w &&& r.mask ≠ r.pat) →
    (∀ s : State, s.halt = false → s.fault = false →
      commandPort w s = .next { s with fault := true, fcode := 1#4, finfo := w, fpc := s.cmdcnt }) ∧
    decode w = .error (if w.toNat / 2 ^ 24 ∈ [0x00, 0x01, 0x10, 0x11, 0x12, 0x13, 0x14, 0x20, 0x21, 0x22, 0x30, 0x40, 0x41, 0x42, 0x43]
      then .nonzeroField (opField w) else .unknownOp (opField w))

/-- Words written out from the tables of rules R82 to R88, one of each family, with operand bits set. -/
def Obligations.DecodesWordsOfTheSpec : Prop :=
  decodeTableWord 32 0x00000000 = some .nop ∧ decodeTableWord 32 0x01000000 = some .halt ∧
  decodeTableWord 32 0x11001234 = some (.setli 4660) ∧ decodeTableWord 32 0x14000002 = some (.prep .A .H) ∧
  decodeTableWord 32 0x22000003 = some (.fft .B .minus) ∧ decodeTableWord 32 0x30000001 = some (.cmul .B) ∧
  decodeTableWord 32 0x43000000 = some (.render .A) ∧ decodeTableWord 32 0x22800000 = none

/-- Rules R93, R95: the canonical text of a legal word assembles to that word. -/
def Obligations.AssemblerReadsBackEveryLegalWord : Prop :=
  ∀ w i, decode w = .ok i → assemble (disassemble i) = some [w]

/-- Rules R94, R205: the line `CONV` assembles to the eleven words of the table of rule R205. -/
def Obligations.ConvAssemblesToElevenWords : Prop :=
  assemble ['C', 'O', 'N', 'V'] = some [0x12000000#32, 0x14000000#32, 0x14000003#32, 0x22000000#32, 0x22000001#32, 0x30000000#32,
    0x22000002#32, 0x40000000#32, 0x41000000#32, 0x42000000#32, 0x43000000#32]

/-! ## Steps, the host and reset (20_memory.md, 60_exceptions.md, 70_reset_and_hazards.md) -/

/-- Rules R61, R89: a step whose next host move is a command word that decodes runs exactly that command, on the state with
the move taken off. -/
def Obligations.StepRunsDecodedCommand : Prop :=
  ∀ (s : State) w ms i, s.pending = .command w :: ms → s.halt = false → s.fault = false → decode w = .ok i →
    step s = exec i { s with pending := ms }

/-- Rule R242: while HALT = 1 or FAULT = 1 a command word changes nothing, legal or not; only a reset clears the two flags;
reads and data-port writes are served as at any other time. -/
def Obligations.StoppedEngineIgnoresCommands : Prop :=
  ∀ s : State, s.halt = true ∨ s.fault = true →
    (∀ w, commandPort w s = .next s) ∧
    (∀ m t, applyMove m s = .next t → (t.halt = s.halt ∧ t.fault = s.fault) ∨ m = .reset ∨ ∃ w, m = .resetDuring w) ∧
    (∀ sp a, applyMove (.read sp a) s = .next { s with reply := hostRead s sp a }) ∧
    (∀ sp a v, applyMove (.write sp a v) s = .next (hostWrite s sp a v))

/-- Rules R260, R266: with no host move waiting the engine does nothing by itself. -/
def Obligations.IdleEngineStaysPut : Prop := ∀ s : State, s.pending = [] → step s = .next s

/-- Rules R57, R269: every step answers a next state, in every state, and no step changes the capacity KMAX (rule R6). -/
def Obligations.EveryStepAnswersNext : Prop := ∀ s : State, ∃ t, step s = .next t ∧ t.kmax = s.kmax

/-- The invariant holds right after power-up reset. -/
def Obligations.InvariantHoldsAtReset : Prop := Inv State.reset

/-- Rules R21, R25 to R28, R32, R50, R57, R236: from every state that meets the invariant, a step gives a state that meets
it: the registers keep their bounds, FCODE is nonzero exactly when FAULT is set, PEAK is never a NaN or negative, and every
memory keeps its canonical form inside its space. -/
def Obligations.StepKeepsInvariant : Prop := ∀ s t : State, Inv s → step s = .next t → Inv t

/-- Rule R34: after reset the register port reads zero in all ten registers. Nothing has been written to a memory, so each
word reads as its unspecified power-up value (rule R56; log entry 2). -/
def Obligations.ResetRegistersReadZero : Prop :=
  (∀ r < 9, registerPort State.reset r = some (.w32 0#32)) ∧ registerPort State.reset 9 = some (.w64 0#64) ∧
  State.reset.xmem = [] ∧ State.reset.hmem = [] ∧ State.reset.bufa = [] ∧ State.reset.bufb = [] ∧ State.reset.omem = []

/-- Rule R260: a reset of the idle FCC puts every register at its reset value, from any state, and changes no memory word;
the engine accepts commands again. -/
def Obligations.ResetClearsRegistersAndKeepsMemories : Prop :=
  ∀ s : State, ∃ t, applyMove .reset s = .next t ∧
    (∀ r < 9, registerPort t r = some (.w32 0#32)) ∧ registerPort t 9 = some (.w64 0#64) ∧ t.stopped = false ∧
    t.xmem = s.xmem ∧ t.hmem = s.hmem ∧ t.bufa = s.bufa ∧ t.bufb = s.bufb ∧ t.omem = s.omem ∧ t.kmax = s.kmax

/-- Rule R261: a reset during a command leaves the registers at their reset values, and every memory word that the command
could not have written as it was. Which word the others hold is a free value (log entry 5). -/
def Obligations.ResetDuringACommandTouchesOnlyItsFootprint : Prop :=
  ∀ (w : Word) (s : State), ∃ t, applyMove (.resetDuring w) s = .next t ∧
    (∀ r < 9, registerPort t r = some (.w32 0#32)) ∧ registerPort t 9 = some (.w64 0#64) ∧
    t.xmem = s.xmem ∧ t.hmem = s.hmem ∧
    (∀ b a, (∀ i n, s.stopped = false → decode w = .ok i → footprint i s = .buffer b n → n ≤ a) →
      (t.bank b).read a = (s.bank b).read a) ∧
    (∀ a, (∀ i n, s.stopped = false → decode w = .ok i → footprint i s = .outputs n → n ≤ a) →
      t.output.read a = s.output.read a)

/-- Rule R60: the register port returns each register of the table zero-extended, PEAK whole, and has no side effect;
STATUS carries HALT, FAULT, OVF and PKZ in bits 0 to 3 and zeros above (rule R24); no register is writable by the host. -/
def Obligations.RegisterPortReadsTheRegisters : Prop :=
  ∀ s : State,
    (∃ v, registerPort s 0 = some (.w32 v) ∧
      v.toNat = s.halt.toNat + 2 * s.fault.toNat + 4 * s.ovf.toNat + 8 * s.pkz.toNat) ∧
    (∃ v, registerPort s 1 = some (.w32 v) ∧ v.toNat = s.fcode.toNat) ∧
    registerPort s 2 = some (.w32 s.finfo) ∧ registerPort s 3 = some (.w32 s.fpc) ∧ registerPort s 4 = some (.w32 s.cmdcnt) ∧
    (∃ v, registerPort s 5 = some (.w32 v) ∧ v.toNat = s.ld.toNat) ∧
    (∃ v, registerPort s 6 = some (.w32 v) ∧ v.toNat = s.li.toNat) ∧
    (∃ v, registerPort s 7 = some (.w32 v) ∧ v.toNat = s.k.toNat) ∧
    (∃ v, registerPort s 8 = some (.w32 v) ∧ v.toNat = s.olen.toNat) ∧
    registerPort s 9 = some (.w64 s.peak) ∧
    (∀ r, applyMove (.read 0 r) s = .next { s with reply := registerPort s r }) ∧
    (∀ r v, applyMove (.write 0 r v) s = .next s)

/-- Rules R52, R59: a word the host writes to XMEM, HMEM, BUFA or BUFB inside the space is the word it then reads there, it
is the engine's word at index a + 1 of a buffer, and every other word and register reads as before. -/
def Obligations.HostWriteThenRead : Prop :=
  ∀ (s : State) (sp a : Nat) (v : HostWord),
    (sp = 1 ∨ sp = 2) ∧ a < s.nmax ∧ (∃ x, v = .w16 x) ∨ (sp = 3 ∨ sp = 4) ∧ a < 2 * s.nmax ∧ (∃ x, v = .w64 x) →
    hostRead (hostWrite s sp a v) sp a = some v ∧
    (∀ sp' a', ¬(sp' = sp ∧ a' = a) → hostRead (hostWrite s sp a v) sp' a' = hostRead s sp' a') ∧
    (sp = 3 → .w64 (((hostWrite s sp a v).bank .A).data (a + 1)) = v) ∧
    (sp = 4 → .w64 (((hostWrite s sp a v).bank .B).data (a + 1)) = v)

/-- Rule R62: a write to OMEM or a register, an index outside the space, a space number above 5 and a register number above
9 are refused: a refused write changes no state, a refused read returns no value. -/
def Obligations.RefusedAccessesChangeNothing : Prop :=
  ∀ s : State,
    (∀ sp a v, sp = 0 ∨ 5 ≤ sp → hostWrite s sp a v = s) ∧
    (∀ sp a v, sp = 1 ∨ sp = 2 → s.nmax ≤ a → hostWrite s sp a v = s) ∧
    (∀ sp a v, sp = 3 ∨ sp = 4 → 2 * s.nmax ≤ a → hostWrite s sp a v = s) ∧
    (∀ r, 9 < r → hostRead s 0 r = none) ∧
    (∀ sp a, sp = 1 ∨ sp = 2 ∨ sp = 5 → s.nmax ≤ a → hostRead s sp a = none) ∧
    (∀ sp a, sp = 3 ∨ sp = 4 → 2 * s.nmax ≤ a → hostRead s sp a = none) ∧
    (∀ sp a, 5 < sp → hostRead s sp a = none)

/-- Rule R269: every finite list of host moves is worked off, one step a move. -/
def Obligations.EveryStreamEnds : Prop :=
  ∀ s : State, ∃ t : State, Host.Core.run Sys2Proof.core s.pending.length s = .next t ∧ t.pending = []

/-- Rules R242, R268: once a run has ended by HALT or by a fault, the words that remain are ignored, however many there are:
whatever number of steps follows, with commands and reads only, the state is the one the run ended in but for the moves
taken off and the last reply. -/
def Obligations.EndedRunIgnoresTheRest : Prop :=
  ∀ s : State, runEnd s = some .halted ∨ runEnd s = some .faulted → QuietHost s.pending →
    ∀ n, ∃ t : State, Host.Core.run Sys2Proof.core n s = .next t ∧
      ({ t with pending := s.pending, reply := s.reply } : State) = s

/-- Rule R268, case (c): a run whose words have all been presented, with neither flag set, has ended; with no reset to come,
whatever number of steps follows, it stays ended and the state is the result: only the host's own writes to XMEM, HMEM, BUFA
and BUFB, the moves taken off and the last reply can differ. Whether a word to come belongs to the run is the model's reading
of the rule (log entry 16). -/
def Obligations.ExhaustedRunIsTheResult : Prop :=
  ∀ s : State, runEnd s = some .exhausted → .reset ∉ s.pending →
    ∀ n, ∃ t : State, Host.Core.run Sys2Proof.core n s = .next t ∧ runEnd t = some .exhausted ∧
      ({ t with xmem := s.xmem, hmem := s.hmem, bufa := s.bufa, bufb := s.bufb, pending := s.pending, reply := s.reply } : State) = s

/-! ## Faults (60_exceptions.md) -/

/-- Rule R234: fault entry performs exactly four writes and changes nothing else. -/
def Obligations.FaultEntryWritesFourRegisters : Prop :=
  ∀ (s : State) (f : FaultCode) (info : Nat),
    (s.raise f info).fault = true ∧
    (s.raise f info).fcode = (match f with | .eill => 1#4 | .ecap => 2#4 | .eempty => 3#4 | .efit => 4#4) ∧
    (s.raise f info).finfo.toNat = info % 2 ^ 32 ∧
    (s.raise f info).fpc = s.cmdcnt ∧
    ({ s.raise f info with fault := s.fault, fcode := s.fcode, finfo := s.finfo, fpc := s.fpc } : State) = s

/-- Rules R23, R232, R233, R235: a decoded command faults exactly on the conditions of the table, in the table's order, with
the table's code and FINFO, and then nothing but the fault entry happens; in every other case it completes, CMDCNT counts it
and the fault record is untouched. -/
def Obligations.CommandsFaultExactlyByTheTable : Prop :=
  ∀ (i : Instr) (s : State),
    match faultOf i s with
    | some (f, info) => exec i s = .next (s.raise f info)
    | none => ∃ t, exec i s = .next t ∧ t.cmdcnt = s.cmdcnt + 1#32 ∧ t.fault = s.fault ∧ t.fcode = s.fcode ∧
        t.finfo = s.finfo ∧ t.fpc = s.fpc

/-! ## Frames over all commands -/

/-- Rules R50, R53, R73, R261: whatever the command and the state, no memory word outside the command's footprint changes;
XMEM and HMEM never do. -/
def Obligations.CommandsWriteOnlyTheirFootprint : Prop :=
  ∀ (i : Instr) (s t : State), exec i s = .next t →
    t.xmem = s.xmem ∧ t.hmem = s.hmem ∧
    (∀ b a, (∀ n, footprint i s = .buffer b n → n ≤ a) → (t.bank b).read a = (s.bank b).read a) ∧
    (∀ a, (∀ n, footprint i s = .outputs n → n ≤ a) → t.output.read a = s.output.read a)

/-- Rules R24 to R33: no command but those the table names as its writers changes a register or flag. -/
def Obligations.OnlyTheNamedCommandsWriteARegister : Prop :=
  ∀ (i : Instr) (s t : State), exec i s = .next t →
    (t.halt ≠ s.halt → i = .halt) ∧
    (t.ovf ≠ s.ovf → ∃ b, i = .render b) ∧
    (t.pkz ≠ s.pkz → ∃ b, i = .peak b) ∧
    (t.fault ≠ s.fault ∨ t.fcode ≠ s.fcode ∨ t.finfo ≠ s.finfo ∨ t.fpc ≠ s.fpc → ∃ f info, t = s.raise f info) ∧
    (t.ld ≠ s.ld → ∃ imm, i = .setld imm) ∧
    (t.li ≠ s.li → ∃ imm, i = .setli imm) ∧
    (t.k ≠ s.k → i = .setn ∨ ∃ imm, i = .setk imm) ∧
    (t.olen ≠ s.olen → ∃ b, i = .render b) ∧
    (t.peak ≠ s.peak → ∃ b, i = .peak b) ∧
    t.kmax = s.kmax ∧ t.pending = s.pending ∧ t.reply = s.reply

/-- Rule R73: XMEM and HMEM change in a step only when the host's move writes them. -/
def Obligations.OnlyTheHostWritesSamples : Prop :=
  ∀ s t : State, step s = .next t →
    (t.xmem ≠ s.xmem → ∃ a v ms, s.pending = .write 1 a v :: ms) ∧
    (t.hmem ≠ s.hmem → ∃ a v ms, s.pending = .write 2 a v :: ms)

/-! ## System commands (45_system_commands.md) -/

/-- Rule R200: NOP does nothing but count. -/
def Obligations.NopOnlyCounts : Prop := ∀ s : State, exec .nop s = .next { s with cmdcnt := s.cmdcnt + 1#32 }

/-- Rule R201: HALT sets the HALT flag and is counted, changes nothing else, and after it every command word is ignored. -/
def Obligations.HaltEndsTheRun : Prop :=
  ∀ s : State, exec .halt s = .next { s with halt := true, cmdcnt := s.cmdcnt + 1#32 } ∧
    ∀ w, commandPort w { s with halt := true, cmdcnt := s.cmdcnt + 1#32 } =
      .next { s with halt := true, cmdcnt := s.cmdcnt + 1#32 }

/-! ## Signal preparer (42_signal_preparer.md) -/

/-- Rule R150: SETLD sets LD to an immediate of at most NMAX, and faults ECAP on a larger one. -/
def Obligations.SetldSetsTheDryLength : Prop :=
  ∀ (s : State) (imm : Nat),
    (imm ≤ 2 ^ s.kmax.val → ∃ v : BitVec 26, v.toNat = imm ∧
      exec (.setld imm) s = .next { s with ld := v, cmdcnt := s.cmdcnt + 1#32 }) ∧
    (2 ^ s.kmax.val < imm → exec (.setld imm) s = .next (s.raise .ecap imm))

/-- Rule R151: SETLI sets LI to an immediate of at most NMAX, and faults ECAP on a larger one. -/
def Obligations.SetliSetsTheImpulseLength : Prop :=
  ∀ (s : State) (imm : Nat),
    (imm ≤ 2 ^ s.kmax.val → ∃ v : BitVec 26, v.toNat = imm ∧
      exec (.setli imm) s = .next { s with li := v, cmdcnt := s.cmdcnt + 1#32 }) ∧
    (2 ^ s.kmax.val < imm → exec (.setli imm) s = .next (s.raise .ecap imm))

/-- Rule R153: SETK sets K to an immediate of at most KMAX, and faults ECAP on a larger one. -/
def Obligations.SetkSetsTheTransformLength : Prop :=
  ∀ (s : State) (imm : Nat),
    (imm ≤ s.kmax.val → ∃ v : BitVec 5, v.toNat = imm ∧
      exec (.setk imm) s = .next { s with k := v, cmdcnt := s.cmdcnt + 1#32 }) ∧
    (s.kmax.val < imm → exec (.setk imm) s = .next (s.raise .ecap imm))

/-- Rule R152: SETN sets K to the least natural number with 2^K ≥ L = LD + LI − 1; it faults EEMPTY with 0 when a length is
zero, else ECAP with L when L exceeds NMAX. -/
def Obligations.SetnChoosesTheLeastLength : Prop :=
  ∀ s : State,
    (s.ld.toNat = 0 ∨ s.li.toNat = 0 → exec .setn s = .next (s.raise .eempty 0)) ∧
    (1 ≤ s.ld.toNat → 1 ≤ s.li.toNat →
      (s.ld.toNat + s.li.toNat - 1 ≤ 2 ^ s.kmax.val →
        ∃ v : BitVec 5, s.ld.toNat + s.li.toNat - 1 ≤ 2 ^ v.toNat ∧
          (∀ j, s.ld.toNat + s.li.toNat - 1 ≤ 2 ^ j → v.toNat ≤ j) ∧
          exec .setn s = .next { s with k := v, cmdcnt := s.cmdcnt + 1#32 }) ∧
      (2 ^ s.kmax.val < s.ld.toNat + s.li.toNat - 1 →
        exec .setn s = .next (s.raise .ecap (s.ld.toNat + s.li.toNat - 1))))

/-- Rules R154, R155: PREP of a signal that fits completes: sample k, converted, is the real part of position k, with
imaginary part +0.0, and every other position of the active region is +0.0; nothing else changes. A signal longer than N
faults EFIT with its length. -/
def Obligations.PrepConvertsAndPads : Prop :=
  ∀ (b : Buf) (src : Src) (s : State),
    (s.srcLen src ≤ s.txLen → ∃ t, exec (.prep b src) s = .next t ∧ BufferFrame b s t ∧
      (∀ k < s.srcLen src, (t.bank b).position k =
        ((binary64 s.draws).fdiv [k] (f64OfInt ((s.samples src).read k).toInt) 0x40E0000000000000#64, 0#64)) ∧
      (∀ k, s.srcLen src ≤ k → k < s.txLen → (t.bank b).position k = (0#64, 0#64))) ∧
    (s.txLen < s.srcLen src → exec (.prep b src) s = .next (s.raise .efit (s.srcLen src)))

/-- Rules R105, R154: the conversion of a sample is exact: sample value v becomes the finite value v/32768. -/
def Obligations.PcmConversionIsExact : Prop :=
  ∀ (nan : RealWord) (w : Sample),
    f64IsFinite (f64Div nan (f64OfInt w.toInt) 0x40E0000000000000#64) = true ∧
    f64Value (f64Div nan (f64OfInt w.toInt) 0x40E0000000000000#64) = (w.toInt : ℚ) / 32768

/-! ## FFT engine (41_fft_engine.md) -/

/-- Rule R112: rev_K(p) is the number whose K bits are those of p read backwards. -/
def Obligations.RevReadsBitsBackwards : Prop :=
  (∀ k p, p < 2 ^ k → rev k p = ∑ t ∈ Finset.range k, p / 2 ^ t % 2 * 2 ^ (k - 1 - t)) ∧ rev 0 0 = 0

/-- Rule R113: rev_K is an involution on the positions 0..2^K − 1. -/
def Obligations.RevIsAnInvolution : Prop := ∀ k p, p < 2 ^ k → rev k p < 2 ^ k ∧ rev k (rev k p) = p

/-- Rule R130: BITREV completes; afterwards the entry at every position p is the one that was at position rev_K(p), as bit
patterns; nothing else changes; a second BITREV restores every word of the active region. -/
def Obligations.BitrevPermutesPositions : Prop :=
  ∀ (b : Buf) (s : State), ∃ t, exec (.bitrev b) s = .next t ∧ BufferFrame b s t ∧
    (∀ p < s.txLen, (t.bank b).position p = (s.bank b).position (rev s.kNat p)) ∧
    ∃ u, exec (.bitrev b) t = .next u ∧ ∀ a, (u.bank b).read a = (s.bank b).read a

/-- Rule R131: BFLY completes and is the K stages of the position form: stage S replaces, for every block c and column r,
the upper entry c·2^S + r and the lower entry c·2^S + r + 2^(S−1) by BF of the two with the r-th twiddle factor of the
stage, which starts at (1.0, 0.0) and is advanced by REC with the stage's seeds; nothing else changes. -/
def Obligations.BflyRunsTheStages : Prop :=
  ∀ (b : Buf) (sgn : Sgn) (s : State), ∃ t, exec (.bfly b sgn) s = .next t ∧ BufferFrame b s t ∧
    ∃ E W : Nat → Nat → RealWord × RealWord,
      (∀ p < s.txLen, E 0 p = (s.bank b).position p) ∧
      (∀ p < s.txLen, (t.bank b).position p = E s.kNat p) ∧
      (∀ S, W S 0 = (0x3FF0000000000000#64, 0x0000000000000000#64)) ∧
      (∀ S r, W S (r + 1) = twiddleStep (binary64 s.draws) [1, S, 2 * r + 1] (W S r) (seeds (binary64 s.draws) sgn S)) ∧
      ∀ S, 1 ≤ S → S ≤ s.kNat → ∀ c < 2 ^ (s.kNat - S), ∀ r < 2 ^ (S - 1),
        (E S (c * 2 ^ S + r), E S (c * 2 ^ S + r + 2 ^ (S - 1))) =
          bf (binary64 s.draws) [0, S, 2 * r + 1 + c * (2 * 2 ^ S)] (E (S - 1) (c * 2 ^ S + r))
            (E (S - 1) (c * 2 ^ S + r + 2 ^ (S - 1))) (W S r)

/-- Rule R138: two butterflies of one stage, in whatever columns and blocks and with whatever twiddle factors, give the same
words in either order. -/
def Obligations.ButterfliesOfAStageCommute : Prop :=
  ∀ (F : Type) (A : Arith F) (S c r c' r' : Nat) (w w' : F × F) (d : Bank F),
    1 ≤ S → r < 2 ^ (S - 1) → r' < 2 ^ (S - 1) → (c, r) ≠ (c', r') →
    ∀ a,
      (butterflyAt A S (2 ^ S) w' (butterflyAt A S (2 ^ S) w d (2 * (c * 2 ^ S + r) + 1)) (2 * (c' * 2 ^ S + r') + 1)).read a =
      (butterflyAt A S (2 ^ S) w (butterflyAt A S (2 ^ S) w' d (2 * (c' * 2 ^ S + r') + 1)) (2 * (c * 2 ^ S + r) + 1)).read a

/-- From rule R132: FFT completes and is BITREV followed by BFLY as one step: the same final state, but that CMDCNT has advanced
by 1 and not by 2. That a NaN's sign and payload agree too is the model's choice: both runs draw the same free
values (log entry 3). -/
def Obligations.FftIsBitrevThenBfly : Prop :=
  ∀ (b : Buf) (sgn : Sgn) (s : State), ∃ t u v, exec (.bitrev b) s = .next u ∧ exec (.bfly b sgn) u = .next v ∧
    v.cmdcnt = s.cmdcnt + 2#32 ∧ exec (.fft b sgn) s = .next t ∧ t = { v with cmdcnt := s.cmdcnt + 1#32 } ∧ BufferFrame b s t

/-! ## Frequency-domain convolver (43_freq_convolver.md) -/

/-- Rule R170: CMUL completes; every entry of buffer b becomes the complex product of the two buffers' entries before;
nothing else changes, the other buffer included. -/
def Obligations.CmulMultipliesEntrywise : Prop :=
  ∀ (b : Buf) (s : State), ∃ t, exec (.cmul b) s = .next t ∧ BufferFrame b s t ∧
    ∀ e, 1 ≤ e → e ≤ s.txLen →
      ((t.bank b).data (2 * e - 1), (t.bank b).data (2 * e)) =
        cm (binary64 s.draws) [e] ((s.bank b).data (2 * e - 1)) ((s.bank b).data (2 * e))
          ((s.bank (otherBuf b)).data (2 * e - 1)) ((s.bank (otherBuf b)).data (2 * e))

/-! ## Normalizer and renderer (44_normalizer_renderer.md) -/

/-- Rule R180: SCALE completes; every word 1..2N of buffer b is its old value divided by N; nothing else changes. -/
def Obligations.ScaleDividesByN : Prop :=
  ∀ (b : Buf) (s : State), ∃ t, exec (.scale b) s = .next t ∧ BufferFrame b s t ∧
    ∀ i, 1 ≤ i → i ≤ 2 * s.txLen →
      (t.bank b).data i = (binary64 s.draws).fdiv [i] ((s.bank b).data i) (f64OfInt (2 ^ s.kNat : Nat))

/-- Rules R32, R181: PEAK completes; PEAK is +0.0 or the absolute real part of some entry, no entry's absolute real part is
greater, it is not a NaN and has sign 0; PKZ says whether it is zero; nothing else changes. -/
def Obligations.PeakFindsTheLargestRealPart : Prop :=
  ∀ (b : Buf) (s : State), ∃ t, exec (.peak b) s = .next t ∧
    ({ t with peak := s.peak, pkz := s.pkz, cmdcnt := s.cmdcnt } : State) = s ∧ t.cmdcnt = s.cmdcnt + 1#32 ∧
    (∀ e, 1 ≤ e → e ≤ s.txLen → f64Gt (f64Abs ((s.bank b).data (2 * e - 1))) t.peak = false) ∧
    (t.peak = 0x0000000000000000#64 ∨ ∃ e, 1 ≤ e ∧ e ≤ s.txLen ∧ t.peak = f64Abs ((s.bank b).data (2 * e - 1))) ∧
    f64IsNaN t.peak = false ∧ f64Sign t.peak = false ∧ t.pkz = f64IsZero t.peak

/-- Rule R182: NORM with a nonzero PEAK divides every word 1..2N of buffer b by PEAK; with a zero PEAK it changes nothing but
the count of commands. -/
def Obligations.NormDividesByPeak : Prop :=
  ∀ (b : Buf) (s : State),
    (f64IsZero s.peak = true → exec (.norm b) s = .next { s with cmdcnt := s.cmdcnt + 1#32 }) ∧
    (f64IsZero s.peak = false → ∃ t, exec (.norm b) s = .next t ∧ BufferFrame b s t ∧
      ∀ i, 1 ≤ i → i ≤ 2 * s.txLen → (t.bank b).data i = (binary64 s.draws).fdiv [i] ((s.bank b).data i) s.peak)

/-- Rule R183: RENDER faults EEMPTY with 0 when a length is zero, else EFIT with L when L exceeds N, before it writes
anything. Otherwise it completes: OMEM word k < L is the low 16 bits of the truncation toward zero of the real part of
position k times 32768.0, when that product is finite (the word is unspecified when it is not); OVF says whether some sample
was out of range or not finite; OLEN is L; nothing else changes. -/
def Obligations.RenderEncodesTheSamples : Prop :=
  ∀ (b : Buf) (s : State),
    (s.ld.toNat = 0 ∨ s.li.toNat = 0 → exec (.render b) s = .next (s.raise .eempty 0)) ∧
    (1 ≤ s.ld.toNat → 1 ≤ s.li.toNat → s.txLen < s.ld.toNat + s.li.toNat - 1 →
      exec (.render b) s = .next (s.raise .efit (s.ld.toNat + s.li.toNat - 1))) ∧
    (1 ≤ s.ld.toNat → 1 ≤ s.li.toNat → s.convLen ≤ s.txLen →
      ∃ t, exec (.render b) s = .next t ∧
        ({ t with omem := s.omem, ovf := s.ovf, olen := s.olen, cmdcnt := s.cmdcnt, draws := s.draws } : State) = s ∧
        t.cmdcnt = s.cmdcnt + 1#32 ∧ t.olen = BitVec.ofNat 26 s.convLen ∧
        (s.kNat ≤ s.kmax.val → t.olen.toNat = s.ld.toNat + s.li.toNat - 1) ∧
        (∀ k < s.convLen, ∀ v : Int,
          f64ToInt ((binary64 s.draws).fmul [k] ((s.bank b).position k).1 0x40E0000000000000#64) = some v →
          t.output.read k = BitVec.ofInt 16 v) ∧
        (t.ovf = true ↔ ∃ k < s.convLen, ∀ v : Int,
          f64ToInt ((binary64 s.draws).fmul [k] ((s.bank b).position k).1 0x40E0000000000000#64) = some v →
          v < -32768 ∨ 32767 < v) ∧
        ∀ k, s.convLen ≤ k → t.output.read k = s.output.read k)

/-- Rules R185, R215: after PEAK b and NORM b on a buffer whose real parts are finite, every real part is finite with
absolute value at most 1.0, and when the peak is not zero some real part has absolute value exactly 1.0. -/
def Obligations.NoClipAfterPeakAndNorm : Prop :=
  ∀ (b : Buf) (s t u : State),
    (∀ e, 1 ≤ e → e ≤ s.txLen → f64IsFinite ((s.bank b).data (2 * e - 1)) = true) →
    exec (.peak b) s = .next t → exec (.norm b) t = .next u →
    (∀ e, 1 ≤ e → e ≤ s.txLen → f64IsFinite ((u.bank b).data (2 * e - 1)) = true ∧
      f64Gt (f64Abs ((u.bank b).data (2 * e - 1))) 0x3FF0000000000000#64 = false) ∧
    (f64IsZero t.peak = false → ∃ e, 1 ≤ e ∧ e ≤ s.txLen ∧ f64Abs ((u.bank b).data (2 * e - 1)) = 0x3FF0000000000000#64)

/-- Rule R187: when every word of the active region of buffer b is a zero of either sign, PEAK gives +0.0 with PKZ set, NORM
then changes nothing, and RENDER then writes L zeros with OVF clear. -/
def Obligations.ZeroBufferRendersZeros : Prop :=
  ∀ (b : Buf) (s : State), (∀ i, 1 ≤ i → i ≤ 2 * s.txLen → f64IsZero ((s.bank b).data i) = true) →
    1 ≤ s.ld.toNat → 1 ≤ s.li.toNat → s.convLen ≤ s.txLen →
    ∃ t u v, exec (.peak b) s = .next t ∧ t.peak = 0x0000000000000000#64 ∧ t.pkz = true ∧
      exec (.norm b) t = .next u ∧ u = { t with cmdcnt := t.cmdcnt + 1#32 } ∧
      exec (.render b) u = .next v ∧ v.ovf = false ∧ v.olen = BitVec.ofNat 26 s.convLen ∧
      ∀ k < s.convLen, v.output.read k = 0#16

/-! ## Arithmetic units (40_arith_units.md) -/

/-- Rule R100: each of the four operations on finite operands returns the exact result q rounded once. It is a value nearest
to q among all finite binary64 values (subnormals included), on a tie the one with an even fraction, as long as |q| lies
below the midpoint of the largest finite value and 2^1024; from there on it is the infinity of the sign of q. -/
def Obligations.OperationsRoundToNearestEven : Prop :=
  ∀ (nan x y : RealWord), f64IsFinite x = true → f64IsFinite y = true →
    ∀ (r : RealWord) (q : ℚ),
      (r = f64Add nan x y ∧ q = f64Value x + f64Value y) ∨ (r = f64Sub nan x y ∧ q = f64Value x - f64Value y) ∨
      (r = f64Mul nan x y ∧ q = f64Value x * f64Value y) ∨
      (r = f64Div nan x y ∧ f64IsZero y = false ∧ q = f64Value x / f64Value y) →
      (|q| < (2 ^ 54 - 1) * 2 ^ 970 → f64IsFinite r = true ∧ ∀ z : RealWord, f64IsFinite z = true →
        |f64Value r - q| ≤ |f64Value z - q| ∧
        (|f64Value r - q| = |f64Value z - q| → f64Value z ≠ f64Value r → f64Frac r % 2 = 0)) ∧
      ((2 ^ 54 - 1) * 2 ^ 970 ≤ |q| → f64IsInf r = true ∧ (f64Sign r = true ↔ q < 0))

/-- Rule R100, the special cases: an operation with a NaN operand, ∞ − ∞, 0·∞, 0/0 and ∞/∞ return a quiet NaN; a nonzero
finite value over a zero is an infinity, and a zero product or quotient a zero, with the exclusive-or of the signs; x − x
and (+0) + (−0) are +0; (−0) + (−0) is −0. Sign and payload of a NaN are free values (log entry 3). -/
def Obligations.SpecialResultsAreIeee : Prop :=
  ∀ (draw : Nat) (site : Site) (x y : RealWord),
    (f64IsNaN x = true ∨ f64IsNaN y = true →
      f64IsQuietNaN ((binary64 draw).fadd site x y) = true ∧ f64IsQuietNaN ((binary64 draw).fsub site x y) = true ∧
      f64IsQuietNaN ((binary64 draw).fmul site x y) = true ∧ f64IsQuietNaN ((binary64 draw).fdiv site x y) = true) ∧
    (f64IsInf x = true → f64IsInf y = true →
      f64IsQuietNaN ((binary64 draw).fdiv site x y) = true ∧
      (f64Sign x = f64Sign y → f64IsQuietNaN ((binary64 draw).fsub site x y) = true) ∧
      (f64Sign x ≠ f64Sign y → f64IsQuietNaN ((binary64 draw).fadd site x y) = true)) ∧
    (f64IsZero x = true → f64IsInf y = true →
      f64IsQuietNaN ((binary64 draw).fmul site x y) = true ∧ f64IsQuietNaN ((binary64 draw).fmul site y x) = true) ∧
    (f64IsZero x = true → f64IsZero y = true → f64IsQuietNaN ((binary64 draw).fdiv site x y) = true) ∧
    (f64IsFinite x = true → f64IsZero x = false → f64IsZero y = true →
      f64IsInf ((binary64 draw).fdiv site x y) = true ∧ f64Sign ((binary64 draw).fdiv site x y) = (f64Sign x != f64Sign y)) ∧
    (f64IsZero x = true → f64IsFinite y = true →
      f64IsZero ((binary64 draw).fmul site x y) = true ∧ f64Sign ((binary64 draw).fmul site x y) = (f64Sign x != f64Sign y) ∧
      (f64IsZero y = false →
        f64IsZero ((binary64 draw).fdiv site x y) = true ∧
        f64Sign ((binary64 draw).fdiv site x y) = (f64Sign x != f64Sign y))) ∧
    (f64IsFinite x = true → (binary64 draw).fsub site x x = 0#64) ∧
    (binary64 draw).fadd site 0#64 0x8000000000000000#64 = 0#64 ∧
    (binary64 draw).fadd site 0x8000000000000000#64 0x8000000000000000#64 = 0x8000000000000000#64

/-- Rule R101: fneg inverts bit 63 and fabs clears it, on every bit pattern; fgt is the order of the values with the two
zeros equal, the infinities at the ends and every NaN unordered; fiszero holds of +0 and −0 only. -/
def Obligations.SignOrderAndZeroTests : Prop :=
  ∀ x y : RealWord,
    (∀ i < 64, (f64Neg x).getLsbD i = (if i = 63 then !x.getLsbD i else x.getLsbD i) ∧
      (f64Abs x).getLsbD i = (if i = 63 then false else x.getLsbD i)) ∧
    (f64Gt x y = true ↔ f64IsNaN x = false ∧ f64IsNaN y = false ∧
      (f64IsFinite x = true ∧ f64IsFinite y = true ∧ f64Value x > f64Value y ∨
       x = 0x7FF0000000000000#64 ∧ y ≠ 0x7FF0000000000000#64 ∨
       y = 0xFFF0000000000000#64 ∧ x ≠ 0xFFF0000000000000#64)) ∧
    (f64IsZero x = true ↔ x = 0x0000000000000000#64 ∨ x = 0x8000000000000000#64)

/-- Rule R102: i2f is exact for |n| ≤ 2^53, and i2f(0) is +0. -/
def Obligations.IntegersConvertExactly : Prop :=
  (∀ n : Int, n.natAbs ≤ 2 ^ 53 → f64IsFinite (f64OfInt n) = true ∧ f64Value (f64OfInt n) = n) ∧ f64OfInt 0 = 0#64

/-- Rule R103: f2i truncates a finite value toward zero (the integer of largest magnitude that does not exceed it in
magnitude, with its sign), and is not defined for a NaN or an infinity. -/
def Obligations.TruncationIsTowardZero : Prop :=
  ∀ x : RealWord,
    (f64IsFinite x = true → ∃ t : Int, f64ToInt x = some t ∧ |(t : ℚ)| ≤ |f64Value x| ∧ |f64Value x| < |(t : ℚ)| + 1 ∧
      (0 ≤ f64Value x → 0 ≤ t) ∧ (f64Value x ≤ 0 → t ≤ 0)) ∧
    (f64IsFinite x = false → f64ToInt x = none)

/-- Rule R106: CM is the document's formula, all four inputs read first, and exchanging the two factors gives the same
values (a NaN's payload aside). -/
def Obligations.ComplexProductFormula : Prop :=
  ∀ (draw : Nat) (site : Site) (a b c d : RealWord),
    cm (binary64 draw) site a b c d =
      ((binary64 draw).fsub (4 :: site) ((binary64 draw).fmul (0 :: site) a c) ((binary64 draw).fmul (1 :: site) b d),
       (binary64 draw).fadd (5 :: site) ((binary64 draw).fmul (2 :: site) a d) ((binary64 draw).fmul (3 :: site) b c)) ∧
    (f64IsNaN (cm (binary64 draw) site a b c d).1 = false →
      (cm (binary64 draw) site c d a b).1 = (cm (binary64 draw) site a b c d).1) ∧
    (f64IsNaN (cm (binary64 draw) site a b c d).2 = false →
      (cm (binary64 draw) site c d a b).2 = (cm (binary64 draw) site a b c d).2)

/-- Rule R111: under exact arithmetic REC takes (cos φ, sin φ) to (cos(φ + θ), sin(φ + θ)) with θ = sgn·2π/2^s, so that r
turns from (1, 0) give (cos rθ, sin rθ); in binary64 stage 2 uses (1, 0) and exactly (0, ±1). -/
def Obligations.RecurrenceIsARotation : Prop :=
  (∀ (A : Arith ℝ), IsExact A → ∀ (sgn : Sgn) (stage : Nat),
    (∀ (site : Site) (φ : ℝ), twiddleStep A site (Real.cos φ, Real.sin φ) (seeds A sgn stage) =
      (Real.cos (φ + sgnInt sgn * (2 * Real.pi / 2 ^ stage)), Real.sin (φ + sgnInt sgn * (2 * Real.pi / 2 ^ stage)))) ∧
    ∀ W : Nat → ℝ × ℝ, W 0 = (A.one, A.zero) → (∀ r, ∃ site, W (r + 1) = twiddleStep A site (W r) (seeds A sgn stage)) →
      ∀ r : Nat, W r = (Real.cos (r * (sgnInt sgn * (2 * Real.pi / 2 ^ stage))),
        Real.sin (r * (sgnInt sgn * (2 * Real.pi / 2 ^ stage))))) ∧
  (∀ (draw : Nat) (site : Site) (sgn : Sgn),
    twiddleStep (binary64 draw) site ((binary64 draw).one, (binary64 draw).zero) (seeds (binary64 draw) sgn 2) =
      (0x0000000000000000#64, match sgn with | .plus => 0x3FF0000000000000#64 | .minus => 0xBFF0000000000000#64))

/-! ## The transform and the convolution under exact arithmetic (41, 43, 46) -/

/-- Rule R133: under exact arithmetic FFT leaves the discrete Fourier transform of the buffer's entries, for every length
2^K and both signs. -/
def Obligations.FftComputesTheDft : Prop :=
  ∀ (A : Arith ℝ), IsExact A → ∀ (k : Nat) (sgn : Sgn) (d : Bank ℝ), IsDft (2 ^ k) sgn d.entry (fftBank A k sgn d).entry

/-- Rules R136, R211: under exact arithmetic a transform, the transform with the other sign and SCALE leave every word of
the active region as it was. -/
def Obligations.RoundTripRestoresTheBuffer : Prop :=
  ∀ (A : Arith ℝ), IsExact A → ∀ (k : Nat) (sgn sgn' : Sgn), sgn ≠ sgn' → ∀ d : Bank ℝ,
    ∀ i, 1 ≤ i → i ≤ 2 * 2 ^ k → (scaleBank A k (fftBank A k sgn' (fftBank A k sgn d))).data i = d.data i

/-- Rule R172: under exact arithmetic the two transforms, the product, the inverse transform and SCALE leave the circular
convolution of the two buffers' entries. -/
def Obligations.PipelineComputesCircularConvolution : Prop :=
  ∀ (A : Arith ℝ), IsExact A → ∀ (k : Nat) (sgn sgn' : Sgn), sgn ≠ sgn' → ∀ x h : Bank ℝ,
    IsCircularConv (2 ^ k) x.entry h.entry
      (scaleBank A k (fftBank A k sgn' (cmulBank A k (fftBank A k sgn h) (fftBank A k sgn x)))).entry

/-- Rules R173, R212: under exact arithmetic, with both signals prepared by PREP and L = LD + LI − 1 ≤ N, the pipeline up to
SCALE leaves the linear convolution of the sample values in positions 0..L−1 and zeros in positions L..N−1. -/
def Obligations.PipelineComputesLinearConvolution : Prop :=
  ∀ (A : Arith ℝ), IsExact A → ∀ (k ld li : Nat), 1 ≤ ld → 1 ≤ li → ld + li - 1 ≤ 2 ^ k →
    ∀ (xs hs : Bank Sample) (da db : Bank ℝ) (x h : Nat → ℂ), IsSampleSeq xs ld x → IsSampleSeq hs li h →
      ∀ y : Nat → ℂ,
        y = (scaleBank A k (fftBank A k .minus (cmulBank A k (fftBank A k .plus (prepBank A k li hs db))
          (fftBank A k .plus (prepBank A k ld xs da))))).entry →
        IsLinearConv ld li x h y ∧ ∀ m, ld + li - 1 ≤ m → m < 2 ^ k → y m = 0
end

