-- ==== Sys2Proof/Laws/Binary64.lean ====
section
/-! SUPPORT. The small laws of the binary64 format: the fields of a packed pattern, what rounding can answer, and when a
result is a NaN. -/

namespace Sys2Proof.Machine

/-! ## Fields -/

theorem f64Exp_eq (x : RealWord) : f64Exp x = x.toNat / 2 ^ 52 % 2 ^ 11 := by
  simp [f64Exp, BitVec.extractLsb'_toNat, Nat.shiftRight_eq_div_pow]

theorem f64Frac_eq (x : RealWord) : f64Frac x = x.toNat % 2 ^ 52 := by
  simp [f64Frac, BitVec.extractLsb'_toNat]

theorem f64Sign_eq (x : RealWord) : f64Sign x = decide (2 ^ 63 ≤ x.toNat) := by
  have h := x.isLt
  rw [f64Sign, BitVec.getLsbD, Nat.testBit_eq_decide_div_mod_eq]
  congr 1
  apply propext
  omega

theorem f64Pack_toNat (neg : Bool) {mag : Nat} (h : mag < 2 ^ 63) :
    (f64Pack neg mag).toNat = (if neg then 2 ^ 63 else 0) + mag := by
  unfold f64Pack
  rw [BitVec.toNat_append, BitVec.toNat_ofNat, Nat.mod_eq_of_lt h, Nat.shiftLeft_eq, Nat.mul_comm, ← Nat.two_pow_add_eq_or_of_lt h]
  cases neg <;> simp

@[simp] theorem f64Sign_pack (neg : Bool) {mag : Nat} (h : mag < 2 ^ 63) : f64Sign (f64Pack neg mag) = neg := by
  rw [f64Sign_eq, f64Pack_toNat neg h]
  cases neg <;> simp; omega

theorem f64Exp_pack (neg : Bool) {mag : Nat} (h : mag < 2 ^ 63) : f64Exp (f64Pack neg mag) = mag / 2 ^ 52 := by
  rw [f64Exp_eq, f64Pack_toNat neg h]
  cases neg <;> simp <;> omega

theorem f64Frac_pack (neg : Bool) {mag : Nat} (h : mag < 2 ^ 63) : f64Frac (f64Pack neg mag) = mag % 2 ^ 52 := by
  rw [f64Frac_eq, f64Pack_toNat neg h]
  cases neg <;> simp; omega

theorem f64IsZero_eq (x : RealWord) : f64IsZero x = decide (x.toNat % 2 ^ 63 = 0) := by
  unfold f64IsZero
  rw [beq_eq_decide]
  congr 1
  apply propext
  rw [← BitVec.toNat_inj]
  simp [BitVec.extractLsb'_toNat]

@[simp] theorem f64Sign_abs (x : RealWord) : f64Sign (f64Abs x) = false := by
  simp [f64Sign, f64Abs]

theorem f64Abs_toNat (x : RealWord) : (f64Abs x).toNat = x.toNat % 2 ^ 63 := by
  have : (0x7FFFFFFFFFFFFFFF#64).toNat = 2 ^ 63 - 1 := rfl
  rw [f64Abs, BitVec.toNat_and, this, Nat.and_two_pow_sub_one_eq_mod]

@[simp] theorem f64Exp_abs (x : RealWord) : f64Exp (f64Abs x) = f64Exp x := by
  rw [f64Exp_eq, f64Exp_eq, f64Abs_toNat]; omega

@[simp] theorem f64Frac_abs (x : RealWord) : f64Frac (f64Abs x) = f64Frac x := by
  rw [f64Frac_eq, f64Frac_eq, f64Abs_toNat]; omega

@[simp] theorem f64IsNaN_abs (x : RealWord) : f64IsNaN (f64Abs x) = f64IsNaN x := by simp [f64IsNaN]

@[simp] theorem f64Mag_abs (x : RealWord) : f64Mag (f64Abs x) = f64Mag x := by simp [f64Mag]

theorem f64Neg_getLsbD (x : RealWord) (i : Nat) (hi : i < 63) : (f64Neg x).getLsbD i = x.getLsbD i := by
  have h : (0x8000000000000000#64) = BitVec.twoPow 64 63 := rfl
  rw [f64Neg, h, BitVec.getLsbD_xor, BitVec.getLsbD_twoPow]
  have : ¬63 = i := by omega
  simp [this]

@[simp] theorem f64Sign_neg (x : RealWord) : f64Sign (f64Neg x) = !f64Sign x := by
  have h : (0x8000000000000000#64) = BitVec.twoPow 64 63 := rfl
  rw [f64Sign, f64Neg, h, BitVec.getLsbD_xor, BitVec.getLsbD_twoPow]
  simp [f64Sign]

@[simp] theorem f64Exp_neg (x : RealWord) : f64Exp (f64Neg x) = f64Exp x := by
  unfold f64Exp
  congr 1
  apply BitVec.eq_of_getLsbD_eq
  intro i hi
  rw [BitVec.getLsbD_extractLsb', BitVec.getLsbD_extractLsb', f64Neg_getLsbD x _ (by omega)]

@[simp] theorem f64Frac_neg (x : RealWord) : f64Frac (f64Neg x) = f64Frac x := by
  unfold f64Frac
  congr 1
  apply BitVec.eq_of_getLsbD_eq
  intro i hi
  rw [BitVec.getLsbD_extractLsb', BitVec.getLsbD_extractLsb', f64Neg_getLsbD x _ (by omega)]

@[simp] theorem f64IsNaN_neg (x : RealWord) : f64IsNaN (f64Neg x) = f64IsNaN x := by simp [f64IsNaN]

@[simp] theorem f64IsInf_neg (x : RealWord) : f64IsInf (f64Neg x) = f64IsInf x := by simp [f64IsInf]

@[simp] theorem f64Mag_neg (x : RealWord) : f64Mag (f64Neg x) = f64Mag x := by simp [f64Mag]

@[simp] theorem f64Int_neg (x : RealWord) : f64Int (f64Neg x) = -f64Int x := by
  unfold f64Int
  rw [f64Sign_neg, f64Mag_neg]
  cases f64Sign x <;> simp

/-! ## Rounding -/

theorem roundUnits_le (n d : Nat) : roundUnits n d ≤ f64InfMag := Nat.min_le_right _ _

theorem f64InfMag_lt : f64InfMag < 2 ^ 63 := by decide

theorem roundUnits_lt (n d : Nat) : roundUnits n d < 2 ^ 63 := lt_of_le_of_lt (roundUnits_le n d) f64InfMag_lt

/-- A rounded magnitude is never a NaN's. -/
@[simp] theorem f64IsNaN_pack_roundUnits (neg : Bool) (n d : Nat) : f64IsNaN (f64Pack neg (roundUnits n d)) = false := by
  have h := roundUnits_le n d
  have h2 := roundUnits_lt n d
  have e : f64InfMag = 2047 * 2 ^ 52 := rfl
  rw [e] at h
  rw [f64IsNaN, f64Exp_pack neg h2, f64Frac_pack neg h2, Bool.and_eq_false_iff, bne_eq_false_iff_eq, beq_eq_false_iff_ne]
  omega

/-- The NaN of an operation is a NaN, whatever its free bits. -/
@[simp] theorem f64IsNaN_quietNaN (free : BitVec 52) : f64IsNaN (f64QuietNaN free) = true := by
  have h1 : (f64QuietNaN free).toNat / 2 ^ 51 % 2 ^ 12 = 0xFFF := by
    unfold f64QuietNaN
    rw [BitVec.toNat_append, BitVec.toNat_append]
    have hp : (free.extractLsb' 0 51).toNat < 2 ^ 51 := (free.extractLsb' 0 51).isLt
    have hs : (free.extractLsb' 51 1).toNat < 2 ^ 1 := (free.extractLsb' 51 1).isLt
    have hf : (0xFFF#12).toNat = 4095 := rfl
    rw [hf]
    generalize (free.extractLsb' 0 51).toNat = p at hp
    generalize (free.extractLsb' 51 1).toNat = q at hs
    have h12 : (4095 : Nat) < 2 ^ 12 := by norm_num
    rw [Nat.shiftLeft_eq, ← Nat.shiftLeft_eq, ← Nat.shiftLeft_add_eq_or_of_lt h12, ← Nat.shiftLeft_add_eq_or_of_lt hp,
      Nat.shiftLeft_eq, Nat.shiftLeft_eq]
    omega
  have he : f64Exp (f64QuietNaN free) = 2047 := by rw [f64Exp_eq]; omega
  have hf : f64Frac (f64QuietNaN free) ≠ 0 := by rw [f64Frac_eq]; omega
  simp [f64IsNaN, he, hf]

/-- The value of a pattern whose units are a whole multiple of those of 1.0. -/
theorem f64Value_of_units {x : RealWord} {q : Int} (h : f64Int x = q * (f64One : Int)) : f64Value x = q := by
  have hp : (2 : ℚ) ^ 1074 ≠ 0 := pow_ne_zero 1074 two_ne_zero
  rw [f64Value, h, f64One, Int.cast_mul, Int.cast_natCast, Nat.cast_pow, Nat.cast_ofNat, mul_div_assoc, div_self hp, mul_one]

end Sys2Proof.Machine
end

