-- ==== Sys2Proof/Laws/State.lean ====
section
/-! SUPPORT. What each named update of the state does to each field, one lemma per field per update, and what it does to the
accessors of Machine/Ops.lean, Machine/Operands.lean and Machine/Flags.lean. -/

namespace Sys2Proof.Machine

/-! ## `State.setLd` -/

@[simp] theorem State.setLd_kmax (s : State) (v : Nat) : (s.setLd v).kmax = s.kmax := rfl
@[simp] theorem State.setLd_halt (s : State) (v : Nat) : (s.setLd v).halt = s.halt := rfl
@[simp] theorem State.setLd_fault (s : State) (v : Nat) : (s.setLd v).fault = s.fault := rfl
@[simp] theorem State.setLd_ovf (s : State) (v : Nat) : (s.setLd v).ovf = s.ovf := rfl
@[simp] theorem State.setLd_pkz (s : State) (v : Nat) : (s.setLd v).pkz = s.pkz := rfl
@[simp] theorem State.setLd_fcode (s : State) (v : Nat) : (s.setLd v).fcode = s.fcode := rfl
@[simp] theorem State.setLd_finfo (s : State) (v : Nat) : (s.setLd v).finfo = s.finfo := rfl
@[simp] theorem State.setLd_fpc (s : State) (v : Nat) : (s.setLd v).fpc = s.fpc := rfl
@[simp] theorem State.setLd_cmdcnt (s : State) (v : Nat) : (s.setLd v).cmdcnt = s.cmdcnt := rfl
@[simp] theorem State.setLd_ld (s : State) (v : Nat) : (s.setLd v).ld = BitVec.ofNat 26 v := rfl
@[simp] theorem State.setLd_li (s : State) (v : Nat) : (s.setLd v).li = s.li := rfl
@[simp] theorem State.setLd_k (s : State) (v : Nat) : (s.setLd v).k = s.k := rfl
@[simp] theorem State.setLd_olen (s : State) (v : Nat) : (s.setLd v).olen = s.olen := rfl
@[simp] theorem State.setLd_peak (s : State) (v : Nat) : (s.setLd v).peak = s.peak := rfl
@[simp] theorem State.setLd_xmem (s : State) (v : Nat) : (s.setLd v).xmem = s.xmem := rfl
@[simp] theorem State.setLd_hmem (s : State) (v : Nat) : (s.setLd v).hmem = s.hmem := rfl
@[simp] theorem State.setLd_bufa (s : State) (v : Nat) : (s.setLd v).bufa = s.bufa := rfl
@[simp] theorem State.setLd_bufb (s : State) (v : Nat) : (s.setLd v).bufb = s.bufb := rfl
@[simp] theorem State.setLd_omem (s : State) (v : Nat) : (s.setLd v).omem = s.omem := rfl
@[simp] theorem State.setLd_pending (s : State) (v : Nat) : (s.setLd v).pending = s.pending := rfl
@[simp] theorem State.setLd_reply (s : State) (v : Nat) : (s.setLd v).reply = s.reply := rfl
@[simp] theorem State.setLd_draws (s : State) (v : Nat) : (s.setLd v).draws = s.draws := rfl

/-! ## `State.setLi` -/

@[simp] theorem State.setLi_kmax (s : State) (v : Nat) : (s.setLi v).kmax = s.kmax := rfl
@[simp] theorem State.setLi_halt (s : State) (v : Nat) : (s.setLi v).halt = s.halt := rfl
@[simp] theorem State.setLi_fault (s : State) (v : Nat) : (s.setLi v).fault = s.fault := rfl
@[simp] theorem State.setLi_ovf (s : State) (v : Nat) : (s.setLi v).ovf = s.ovf := rfl
@[simp] theorem State.setLi_pkz (s : State) (v : Nat) : (s.setLi v).pkz = s.pkz := rfl
@[simp] theorem State.setLi_fcode (s : State) (v : Nat) : (s.setLi v).fcode = s.fcode := rfl
@[simp] theorem State.setLi_finfo (s : State) (v : Nat) : (s.setLi v).finfo = s.finfo := rfl
@[simp] theorem State.setLi_fpc (s : State) (v : Nat) : (s.setLi v).fpc = s.fpc := rfl
@[simp] theorem State.setLi_cmdcnt (s : State) (v : Nat) : (s.setLi v).cmdcnt = s.cmdcnt := rfl
@[simp] theorem State.setLi_ld (s : State) (v : Nat) : (s.setLi v).ld = s.ld := rfl
@[simp] theorem State.setLi_li (s : State) (v : Nat) : (s.setLi v).li = BitVec.ofNat 26 v := rfl
@[simp] theorem State.setLi_k (s : State) (v : Nat) : (s.setLi v).k = s.k := rfl
@[simp] theorem State.setLi_olen (s : State) (v : Nat) : (s.setLi v).olen = s.olen := rfl
@[simp] theorem State.setLi_peak (s : State) (v : Nat) : (s.setLi v).peak = s.peak := rfl
@[simp] theorem State.setLi_xmem (s : State) (v : Nat) : (s.setLi v).xmem = s.xmem := rfl
@[simp] theorem State.setLi_hmem (s : State) (v : Nat) : (s.setLi v).hmem = s.hmem := rfl
@[simp] theorem State.setLi_bufa (s : State) (v : Nat) : (s.setLi v).bufa = s.bufa := rfl
@[simp] theorem State.setLi_bufb (s : State) (v : Nat) : (s.setLi v).bufb = s.bufb := rfl
@[simp] theorem State.setLi_omem (s : State) (v : Nat) : (s.setLi v).omem = s.omem := rfl
@[simp] theorem State.setLi_pending (s : State) (v : Nat) : (s.setLi v).pending = s.pending := rfl
@[simp] theorem State.setLi_reply (s : State) (v : Nat) : (s.setLi v).reply = s.reply := rfl
@[simp] theorem State.setLi_draws (s : State) (v : Nat) : (s.setLi v).draws = s.draws := rfl

/-! ## `State.setK` -/

@[simp] theorem State.setK_kmax (s : State) (v : Nat) : (s.setK v).kmax = s.kmax := rfl
@[simp] theorem State.setK_halt (s : State) (v : Nat) : (s.setK v).halt = s.halt := rfl
@[simp] theorem State.setK_fault (s : State) (v : Nat) : (s.setK v).fault = s.fault := rfl
@[simp] theorem State.setK_ovf (s : State) (v : Nat) : (s.setK v).ovf = s.ovf := rfl
@[simp] theorem State.setK_pkz (s : State) (v : Nat) : (s.setK v).pkz = s.pkz := rfl
@[simp] theorem State.setK_fcode (s : State) (v : Nat) : (s.setK v).fcode = s.fcode := rfl
@[simp] theorem State.setK_finfo (s : State) (v : Nat) : (s.setK v).finfo = s.finfo := rfl
@[simp] theorem State.setK_fpc (s : State) (v : Nat) : (s.setK v).fpc = s.fpc := rfl
@[simp] theorem State.setK_cmdcnt (s : State) (v : Nat) : (s.setK v).cmdcnt = s.cmdcnt := rfl
@[simp] theorem State.setK_ld (s : State) (v : Nat) : (s.setK v).ld = s.ld := rfl
@[simp] theorem State.setK_li (s : State) (v : Nat) : (s.setK v).li = s.li := rfl
@[simp] theorem State.setK_k (s : State) (v : Nat) : (s.setK v).k = BitVec.ofNat 5 v := rfl
@[simp] theorem State.setK_olen (s : State) (v : Nat) : (s.setK v).olen = s.olen := rfl
@[simp] theorem State.setK_peak (s : State) (v : Nat) : (s.setK v).peak = s.peak := rfl
@[simp] theorem State.setK_xmem (s : State) (v : Nat) : (s.setK v).xmem = s.xmem := rfl
@[simp] theorem State.setK_hmem (s : State) (v : Nat) : (s.setK v).hmem = s.hmem := rfl
@[simp] theorem State.setK_bufa (s : State) (v : Nat) : (s.setK v).bufa = s.bufa := rfl
@[simp] theorem State.setK_bufb (s : State) (v : Nat) : (s.setK v).bufb = s.bufb := rfl
@[simp] theorem State.setK_omem (s : State) (v : Nat) : (s.setK v).omem = s.omem := rfl
@[simp] theorem State.setK_pending (s : State) (v : Nat) : (s.setK v).pending = s.pending := rfl
@[simp] theorem State.setK_reply (s : State) (v : Nat) : (s.setK v).reply = s.reply := rfl
@[simp] theorem State.setK_draws (s : State) (v : Nat) : (s.setK v).draws = s.draws := rfl

/-! ## `State.setOlen` -/

@[simp] theorem State.setOlen_kmax (s : State) (v : Nat) : (s.setOlen v).kmax = s.kmax := rfl
@[simp] theorem State.setOlen_halt (s : State) (v : Nat) : (s.setOlen v).halt = s.halt := rfl
@[simp] theorem State.setOlen_fault (s : State) (v : Nat) : (s.setOlen v).fault = s.fault := rfl
@[simp] theorem State.setOlen_ovf (s : State) (v : Nat) : (s.setOlen v).ovf = s.ovf := rfl
@[simp] theorem State.setOlen_pkz (s : State) (v : Nat) : (s.setOlen v).pkz = s.pkz := rfl
@[simp] theorem State.setOlen_fcode (s : State) (v : Nat) : (s.setOlen v).fcode = s.fcode := rfl
@[simp] theorem State.setOlen_finfo (s : State) (v : Nat) : (s.setOlen v).finfo = s.finfo := rfl
@[simp] theorem State.setOlen_fpc (s : State) (v : Nat) : (s.setOlen v).fpc = s.fpc := rfl
@[simp] theorem State.setOlen_cmdcnt (s : State) (v : Nat) : (s.setOlen v).cmdcnt = s.cmdcnt := rfl
@[simp] theorem State.setOlen_ld (s : State) (v : Nat) : (s.setOlen v).ld = s.ld := rfl
@[simp] theorem State.setOlen_li (s : State) (v : Nat) : (s.setOlen v).li = s.li := rfl
@[simp] theorem State.setOlen_k (s : State) (v : Nat) : (s.setOlen v).k = s.k := rfl
@[simp] theorem State.setOlen_olen (s : State) (v : Nat) : (s.setOlen v).olen = BitVec.ofNat 26 v := rfl
@[simp] theorem State.setOlen_peak (s : State) (v : Nat) : (s.setOlen v).peak = s.peak := rfl
@[simp] theorem State.setOlen_xmem (s : State) (v : Nat) : (s.setOlen v).xmem = s.xmem := rfl
@[simp] theorem State.setOlen_hmem (s : State) (v : Nat) : (s.setOlen v).hmem = s.hmem := rfl
@[simp] theorem State.setOlen_bufa (s : State) (v : Nat) : (s.setOlen v).bufa = s.bufa := rfl
@[simp] theorem State.setOlen_bufb (s : State) (v : Nat) : (s.setOlen v).bufb = s.bufb := rfl
@[simp] theorem State.setOlen_omem (s : State) (v : Nat) : (s.setOlen v).omem = s.omem := rfl
@[simp] theorem State.setOlen_pending (s : State) (v : Nat) : (s.setOlen v).pending = s.pending := rfl
@[simp] theorem State.setOlen_reply (s : State) (v : Nat) : (s.setOlen v).reply = s.reply := rfl
@[simp] theorem State.setOlen_draws (s : State) (v : Nat) : (s.setOlen v).draws = s.draws := rfl

/-! ## `State.setPeak` -/

@[simp] theorem State.setPeak_kmax (s : State) (v : RealWord) : (s.setPeak v).kmax = s.kmax := rfl
@[simp] theorem State.setPeak_halt (s : State) (v : RealWord) : (s.setPeak v).halt = s.halt := rfl
@[simp] theorem State.setPeak_fault (s : State) (v : RealWord) : (s.setPeak v).fault = s.fault := rfl
@[simp] theorem State.setPeak_ovf (s : State) (v : RealWord) : (s.setPeak v).ovf = s.ovf := rfl
@[simp] theorem State.setPeak_pkz (s : State) (v : RealWord) : (s.setPeak v).pkz = s.pkz := rfl
@[simp] theorem State.setPeak_fcode (s : State) (v : RealWord) : (s.setPeak v).fcode = s.fcode := rfl
@[simp] theorem State.setPeak_finfo (s : State) (v : RealWord) : (s.setPeak v).finfo = s.finfo := rfl
@[simp] theorem State.setPeak_fpc (s : State) (v : RealWord) : (s.setPeak v).fpc = s.fpc := rfl
@[simp] theorem State.setPeak_cmdcnt (s : State) (v : RealWord) : (s.setPeak v).cmdcnt = s.cmdcnt := rfl
@[simp] theorem State.setPeak_ld (s : State) (v : RealWord) : (s.setPeak v).ld = s.ld := rfl
@[simp] theorem State.setPeak_li (s : State) (v : RealWord) : (s.setPeak v).li = s.li := rfl
@[simp] theorem State.setPeak_k (s : State) (v : RealWord) : (s.setPeak v).k = s.k := rfl
@[simp] theorem State.setPeak_olen (s : State) (v : RealWord) : (s.setPeak v).olen = s.olen := rfl
@[simp] theorem State.setPeak_peak (s : State) (v : RealWord) : (s.setPeak v).peak = v := rfl
@[simp] theorem State.setPeak_xmem (s : State) (v : RealWord) : (s.setPeak v).xmem = s.xmem := rfl
@[simp] theorem State.setPeak_hmem (s : State) (v : RealWord) : (s.setPeak v).hmem = s.hmem := rfl
@[simp] theorem State.setPeak_bufa (s : State) (v : RealWord) : (s.setPeak v).bufa = s.bufa := rfl
@[simp] theorem State.setPeak_bufb (s : State) (v : RealWord) : (s.setPeak v).bufb = s.bufb := rfl
@[simp] theorem State.setPeak_omem (s : State) (v : RealWord) : (s.setPeak v).omem = s.omem := rfl
@[simp] theorem State.setPeak_pending (s : State) (v : RealWord) : (s.setPeak v).pending = s.pending := rfl
@[simp] theorem State.setPeak_reply (s : State) (v : RealWord) : (s.setPeak v).reply = s.reply := rfl
@[simp] theorem State.setPeak_draws (s : State) (v : RealWord) : (s.setPeak v).draws = s.draws := rfl

/-! ## `State.setHalt` -/

@[simp] theorem State.setHalt_kmax (s : State) : s.setHalt.kmax = s.kmax := rfl
@[simp] theorem State.setHalt_halt (s : State) : s.setHalt.halt = true := rfl
@[simp] theorem State.setHalt_fault (s : State) : s.setHalt.fault = s.fault := rfl
@[simp] theorem State.setHalt_ovf (s : State) : s.setHalt.ovf = s.ovf := rfl
@[simp] theorem State.setHalt_pkz (s : State) : s.setHalt.pkz = s.pkz := rfl
@[simp] theorem State.setHalt_fcode (s : State) : s.setHalt.fcode = s.fcode := rfl
@[simp] theorem State.setHalt_finfo (s : State) : s.setHalt.finfo = s.finfo := rfl
@[simp] theorem State.setHalt_fpc (s : State) : s.setHalt.fpc = s.fpc := rfl
@[simp] theorem State.setHalt_cmdcnt (s : State) : s.setHalt.cmdcnt = s.cmdcnt := rfl
@[simp] theorem State.setHalt_ld (s : State) : s.setHalt.ld = s.ld := rfl
@[simp] theorem State.setHalt_li (s : State) : s.setHalt.li = s.li := rfl
@[simp] theorem State.setHalt_k (s : State) : s.setHalt.k = s.k := rfl
@[simp] theorem State.setHalt_olen (s : State) : s.setHalt.olen = s.olen := rfl
@[simp] theorem State.setHalt_peak (s : State) : s.setHalt.peak = s.peak := rfl
@[simp] theorem State.setHalt_xmem (s : State) : s.setHalt.xmem = s.xmem := rfl
@[simp] theorem State.setHalt_hmem (s : State) : s.setHalt.hmem = s.hmem := rfl
@[simp] theorem State.setHalt_bufa (s : State) : s.setHalt.bufa = s.bufa := rfl
@[simp] theorem State.setHalt_bufb (s : State) : s.setHalt.bufb = s.bufb := rfl
@[simp] theorem State.setHalt_omem (s : State) : s.setHalt.omem = s.omem := rfl
@[simp] theorem State.setHalt_pending (s : State) : s.setHalt.pending = s.pending := rfl
@[simp] theorem State.setHalt_reply (s : State) : s.setHalt.reply = s.reply := rfl
@[simp] theorem State.setHalt_draws (s : State) : s.setHalt.draws = s.draws := rfl

/-! ## `State.setOvf` -/

@[simp] theorem State.setOvf_kmax (s : State) (v : Bool) : (s.setOvf v).kmax = s.kmax := rfl
@[simp] theorem State.setOvf_halt (s : State) (v : Bool) : (s.setOvf v).halt = s.halt := rfl
@[simp] theorem State.setOvf_fault (s : State) (v : Bool) : (s.setOvf v).fault = s.fault := rfl
@[simp] theorem State.setOvf_ovf (s : State) (v : Bool) : (s.setOvf v).ovf = v := rfl
@[simp] theorem State.setOvf_pkz (s : State) (v : Bool) : (s.setOvf v).pkz = s.pkz := rfl
@[simp] theorem State.setOvf_fcode (s : State) (v : Bool) : (s.setOvf v).fcode = s.fcode := rfl
@[simp] theorem State.setOvf_finfo (s : State) (v : Bool) : (s.setOvf v).finfo = s.finfo := rfl
@[simp] theorem State.setOvf_fpc (s : State) (v : Bool) : (s.setOvf v).fpc = s.fpc := rfl
@[simp] theorem State.setOvf_cmdcnt (s : State) (v : Bool) : (s.setOvf v).cmdcnt = s.cmdcnt := rfl
@[simp] theorem State.setOvf_ld (s : State) (v : Bool) : (s.setOvf v).ld = s.ld := rfl
@[simp] theorem State.setOvf_li (s : State) (v : Bool) : (s.setOvf v).li = s.li := rfl
@[simp] theorem State.setOvf_k (s : State) (v : Bool) : (s.setOvf v).k = s.k := rfl
@[simp] theorem State.setOvf_olen (s : State) (v : Bool) : (s.setOvf v).olen = s.olen := rfl
@[simp] theorem State.setOvf_peak (s : State) (v : Bool) : (s.setOvf v).peak = s.peak := rfl
@[simp] theorem State.setOvf_xmem (s : State) (v : Bool) : (s.setOvf v).xmem = s.xmem := rfl
@[simp] theorem State.setOvf_hmem (s : State) (v : Bool) : (s.setOvf v).hmem = s.hmem := rfl
@[simp] theorem State.setOvf_bufa (s : State) (v : Bool) : (s.setOvf v).bufa = s.bufa := rfl
@[simp] theorem State.setOvf_bufb (s : State) (v : Bool) : (s.setOvf v).bufb = s.bufb := rfl
@[simp] theorem State.setOvf_omem (s : State) (v : Bool) : (s.setOvf v).omem = s.omem := rfl
@[simp] theorem State.setOvf_pending (s : State) (v : Bool) : (s.setOvf v).pending = s.pending := rfl
@[simp] theorem State.setOvf_reply (s : State) (v : Bool) : (s.setOvf v).reply = s.reply := rfl
@[simp] theorem State.setOvf_draws (s : State) (v : Bool) : (s.setOvf v).draws = s.draws := rfl

/-! ## `State.setPkz` -/

@[simp] theorem State.setPkz_kmax (s : State) (v : Bool) : (s.setPkz v).kmax = s.kmax := rfl
@[simp] theorem State.setPkz_halt (s : State) (v : Bool) : (s.setPkz v).halt = s.halt := rfl
@[simp] theorem State.setPkz_fault (s : State) (v : Bool) : (s.setPkz v).fault = s.fault := rfl
@[simp] theorem State.setPkz_ovf (s : State) (v : Bool) : (s.setPkz v).ovf = s.ovf := rfl
@[simp] theorem State.setPkz_pkz (s : State) (v : Bool) : (s.setPkz v).pkz = v := rfl
@[simp] theorem State.setPkz_fcode (s : State) (v : Bool) : (s.setPkz v).fcode = s.fcode := rfl
@[simp] theorem State.setPkz_finfo (s : State) (v : Bool) : (s.setPkz v).finfo = s.finfo := rfl
@[simp] theorem State.setPkz_fpc (s : State) (v : Bool) : (s.setPkz v).fpc = s.fpc := rfl
@[simp] theorem State.setPkz_cmdcnt (s : State) (v : Bool) : (s.setPkz v).cmdcnt = s.cmdcnt := rfl
@[simp] theorem State.setPkz_ld (s : State) (v : Bool) : (s.setPkz v).ld = s.ld := rfl
@[simp] theorem State.setPkz_li (s : State) (v : Bool) : (s.setPkz v).li = s.li := rfl
@[simp] theorem State.setPkz_k (s : State) (v : Bool) : (s.setPkz v).k = s.k := rfl
@[simp] theorem State.setPkz_olen (s : State) (v : Bool) : (s.setPkz v).olen = s.olen := rfl
@[simp] theorem State.setPkz_peak (s : State) (v : Bool) : (s.setPkz v).peak = s.peak := rfl
@[simp] theorem State.setPkz_xmem (s : State) (v : Bool) : (s.setPkz v).xmem = s.xmem := rfl
@[simp] theorem State.setPkz_hmem (s : State) (v : Bool) : (s.setPkz v).hmem = s.hmem := rfl
@[simp] theorem State.setPkz_bufa (s : State) (v : Bool) : (s.setPkz v).bufa = s.bufa := rfl
@[simp] theorem State.setPkz_bufb (s : State) (v : Bool) : (s.setPkz v).bufb = s.bufb := rfl
@[simp] theorem State.setPkz_omem (s : State) (v : Bool) : (s.setPkz v).omem = s.omem := rfl
@[simp] theorem State.setPkz_pending (s : State) (v : Bool) : (s.setPkz v).pending = s.pending := rfl
@[simp] theorem State.setPkz_reply (s : State) (v : Bool) : (s.setPkz v).reply = s.reply := rfl
@[simp] theorem State.setPkz_draws (s : State) (v : Bool) : (s.setPkz v).draws = s.draws := rfl

/-! ## `State.setOutput` -/

@[simp] theorem State.setOutput_kmax (s : State) (d : Bank Sample) : (s.setOutput d).kmax = s.kmax := rfl
@[simp] theorem State.setOutput_halt (s : State) (d : Bank Sample) : (s.setOutput d).halt = s.halt := rfl
@[simp] theorem State.setOutput_fault (s : State) (d : Bank Sample) : (s.setOutput d).fault = s.fault := rfl
@[simp] theorem State.setOutput_ovf (s : State) (d : Bank Sample) : (s.setOutput d).ovf = s.ovf := rfl
@[simp] theorem State.setOutput_pkz (s : State) (d : Bank Sample) : (s.setOutput d).pkz = s.pkz := rfl
@[simp] theorem State.setOutput_fcode (s : State) (d : Bank Sample) : (s.setOutput d).fcode = s.fcode := rfl
@[simp] theorem State.setOutput_finfo (s : State) (d : Bank Sample) : (s.setOutput d).finfo = s.finfo := rfl
@[simp] theorem State.setOutput_fpc (s : State) (d : Bank Sample) : (s.setOutput d).fpc = s.fpc := rfl
@[simp] theorem State.setOutput_cmdcnt (s : State) (d : Bank Sample) : (s.setOutput d).cmdcnt = s.cmdcnt := rfl
@[simp] theorem State.setOutput_ld (s : State) (d : Bank Sample) : (s.setOutput d).ld = s.ld := rfl
@[simp] theorem State.setOutput_li (s : State) (d : Bank Sample) : (s.setOutput d).li = s.li := rfl
@[simp] theorem State.setOutput_k (s : State) (d : Bank Sample) : (s.setOutput d).k = s.k := rfl
@[simp] theorem State.setOutput_olen (s : State) (d : Bank Sample) : (s.setOutput d).olen = s.olen := rfl
@[simp] theorem State.setOutput_peak (s : State) (d : Bank Sample) : (s.setOutput d).peak = s.peak := rfl
@[simp] theorem State.setOutput_xmem (s : State) (d : Bank Sample) : (s.setOutput d).xmem = s.xmem := rfl
@[simp] theorem State.setOutput_hmem (s : State) (d : Bank Sample) : (s.setOutput d).hmem = s.hmem := rfl
@[simp] theorem State.setOutput_bufa (s : State) (d : Bank Sample) : (s.setOutput d).bufa = s.bufa := rfl
@[simp] theorem State.setOutput_bufb (s : State) (d : Bank Sample) : (s.setOutput d).bufb = s.bufb := rfl
@[simp] theorem State.setOutput_omem (s : State) (d : Bank Sample) : (s.setOutput d).omem = d.cells := rfl
@[simp] theorem State.setOutput_pending (s : State) (d : Bank Sample) : (s.setOutput d).pending = s.pending := rfl
@[simp] theorem State.setOutput_reply (s : State) (d : Bank Sample) : (s.setOutput d).reply = s.reply := rfl
@[simp] theorem State.setOutput_draws (s : State) (d : Bank Sample) : (s.setOutput d).draws = s.draws := rfl

/-! ## `State.drawn` -/

@[simp] theorem State.drawn_kmax (s : State) : s.drawn.kmax = s.kmax := rfl
@[simp] theorem State.drawn_halt (s : State) : s.drawn.halt = s.halt := rfl
@[simp] theorem State.drawn_fault (s : State) : s.drawn.fault = s.fault := rfl
@[simp] theorem State.drawn_ovf (s : State) : s.drawn.ovf = s.ovf := rfl
@[simp] theorem State.drawn_pkz (s : State) : s.drawn.pkz = s.pkz := rfl
@[simp] theorem State.drawn_fcode (s : State) : s.drawn.fcode = s.fcode := rfl
@[simp] theorem State.drawn_finfo (s : State) : s.drawn.finfo = s.finfo := rfl
@[simp] theorem State.drawn_fpc (s : State) : s.drawn.fpc = s.fpc := rfl
@[simp] theorem State.drawn_cmdcnt (s : State) : s.drawn.cmdcnt = s.cmdcnt := rfl
@[simp] theorem State.drawn_ld (s : State) : s.drawn.ld = s.ld := rfl
@[simp] theorem State.drawn_li (s : State) : s.drawn.li = s.li := rfl
@[simp] theorem State.drawn_k (s : State) : s.drawn.k = s.k := rfl
@[simp] theorem State.drawn_olen (s : State) : s.drawn.olen = s.olen := rfl
@[simp] theorem State.drawn_peak (s : State) : s.drawn.peak = s.peak := rfl
@[simp] theorem State.drawn_xmem (s : State) : s.drawn.xmem = s.xmem := rfl
@[simp] theorem State.drawn_hmem (s : State) : s.drawn.hmem = s.hmem := rfl
@[simp] theorem State.drawn_bufa (s : State) : s.drawn.bufa = s.bufa := rfl
@[simp] theorem State.drawn_bufb (s : State) : s.drawn.bufb = s.bufb := rfl
@[simp] theorem State.drawn_omem (s : State) : s.drawn.omem = s.omem := rfl
@[simp] theorem State.drawn_pending (s : State) : s.drawn.pending = s.pending := rfl
@[simp] theorem State.drawn_reply (s : State) : s.drawn.reply = s.reply := rfl
@[simp] theorem State.drawn_draws (s : State) : s.drawn.draws = s.draws + 1 := rfl

/-! ## `State.setReply` -/

@[simp] theorem State.setReply_kmax (s : State) (r : Option HostWord) : (s.setReply r).kmax = s.kmax := rfl
@[simp] theorem State.setReply_halt (s : State) (r : Option HostWord) : (s.setReply r).halt = s.halt := rfl
@[simp] theorem State.setReply_fault (s : State) (r : Option HostWord) : (s.setReply r).fault = s.fault := rfl
@[simp] theorem State.setReply_ovf (s : State) (r : Option HostWord) : (s.setReply r).ovf = s.ovf := rfl
@[simp] theorem State.setReply_pkz (s : State) (r : Option HostWord) : (s.setReply r).pkz = s.pkz := rfl
@[simp] theorem State.setReply_fcode (s : State) (r : Option HostWord) : (s.setReply r).fcode = s.fcode := rfl
@[simp] theorem State.setReply_finfo (s : State) (r : Option HostWord) : (s.setReply r).finfo = s.finfo := rfl
@[simp] theorem State.setReply_fpc (s : State) (r : Option HostWord) : (s.setReply r).fpc = s.fpc := rfl
@[simp] theorem State.setReply_cmdcnt (s : State) (r : Option HostWord) : (s.setReply r).cmdcnt = s.cmdcnt := rfl
@[simp] theorem State.setReply_ld (s : State) (r : Option HostWord) : (s.setReply r).ld = s.ld := rfl
@[simp] theorem State.setReply_li (s : State) (r : Option HostWord) : (s.setReply r).li = s.li := rfl
@[simp] theorem State.setReply_k (s : State) (r : Option HostWord) : (s.setReply r).k = s.k := rfl
@[simp] theorem State.setReply_olen (s : State) (r : Option HostWord) : (s.setReply r).olen = s.olen := rfl
@[simp] theorem State.setReply_peak (s : State) (r : Option HostWord) : (s.setReply r).peak = s.peak := rfl
@[simp] theorem State.setReply_xmem (s : State) (r : Option HostWord) : (s.setReply r).xmem = s.xmem := rfl
@[simp] theorem State.setReply_hmem (s : State) (r : Option HostWord) : (s.setReply r).hmem = s.hmem := rfl
@[simp] theorem State.setReply_bufa (s : State) (r : Option HostWord) : (s.setReply r).bufa = s.bufa := rfl
@[simp] theorem State.setReply_bufb (s : State) (r : Option HostWord) : (s.setReply r).bufb = s.bufb := rfl
@[simp] theorem State.setReply_omem (s : State) (r : Option HostWord) : (s.setReply r).omem = s.omem := rfl
@[simp] theorem State.setReply_pending (s : State) (r : Option HostWord) : (s.setReply r).pending = s.pending := rfl
@[simp] theorem State.setReply_reply (s : State) (r : Option HostWord) : (s.setReply r).reply = r := rfl
@[simp] theorem State.setReply_draws (s : State) (r : Option HostWord) : (s.setReply r).draws = s.draws := rfl

/-! ## `State.setPending` -/

@[simp] theorem State.setPending_kmax (s : State) (ms : List HostMove) : (s.setPending ms).kmax = s.kmax := rfl
@[simp] theorem State.setPending_halt (s : State) (ms : List HostMove) : (s.setPending ms).halt = s.halt := rfl
@[simp] theorem State.setPending_fault (s : State) (ms : List HostMove) : (s.setPending ms).fault = s.fault := rfl
@[simp] theorem State.setPending_ovf (s : State) (ms : List HostMove) : (s.setPending ms).ovf = s.ovf := rfl
@[simp] theorem State.setPending_pkz (s : State) (ms : List HostMove) : (s.setPending ms).pkz = s.pkz := rfl
@[simp] theorem State.setPending_fcode (s : State) (ms : List HostMove) : (s.setPending ms).fcode = s.fcode := rfl
@[simp] theorem State.setPending_finfo (s : State) (ms : List HostMove) : (s.setPending ms).finfo = s.finfo := rfl
@[simp] theorem State.setPending_fpc (s : State) (ms : List HostMove) : (s.setPending ms).fpc = s.fpc := rfl
@[simp] theorem State.setPending_cmdcnt (s : State) (ms : List HostMove) : (s.setPending ms).cmdcnt = s.cmdcnt := rfl
@[simp] theorem State.setPending_ld (s : State) (ms : List HostMove) : (s.setPending ms).ld = s.ld := rfl
@[simp] theorem State.setPending_li (s : State) (ms : List HostMove) : (s.setPending ms).li = s.li := rfl
@[simp] theorem State.setPending_k (s : State) (ms : List HostMove) : (s.setPending ms).k = s.k := rfl
@[simp] theorem State.setPending_olen (s : State) (ms : List HostMove) : (s.setPending ms).olen = s.olen := rfl
@[simp] theorem State.setPending_peak (s : State) (ms : List HostMove) : (s.setPending ms).peak = s.peak := rfl
@[simp] theorem State.setPending_xmem (s : State) (ms : List HostMove) : (s.setPending ms).xmem = s.xmem := rfl
@[simp] theorem State.setPending_hmem (s : State) (ms : List HostMove) : (s.setPending ms).hmem = s.hmem := rfl
@[simp] theorem State.setPending_bufa (s : State) (ms : List HostMove) : (s.setPending ms).bufa = s.bufa := rfl
@[simp] theorem State.setPending_bufb (s : State) (ms : List HostMove) : (s.setPending ms).bufb = s.bufb := rfl
@[simp] theorem State.setPending_omem (s : State) (ms : List HostMove) : (s.setPending ms).omem = s.omem := rfl
@[simp] theorem State.setPending_pending (s : State) (ms : List HostMove) : (s.setPending ms).pending = ms := rfl
@[simp] theorem State.setPending_reply (s : State) (ms : List HostMove) : (s.setPending ms).reply = s.reply := rfl
@[simp] theorem State.setPending_draws (s : State) (ms : List HostMove) : (s.setPending ms).draws = s.draws := rfl

/-! ## `State.complete` -/

@[simp] theorem State.complete_kmax (s : State) : s.complete.kmax = s.kmax := rfl
@[simp] theorem State.complete_halt (s : State) : s.complete.halt = s.halt := rfl
@[simp] theorem State.complete_fault (s : State) : s.complete.fault = s.fault := rfl
@[simp] theorem State.complete_ovf (s : State) : s.complete.ovf = s.ovf := rfl
@[simp] theorem State.complete_pkz (s : State) : s.complete.pkz = s.pkz := rfl
@[simp] theorem State.complete_fcode (s : State) : s.complete.fcode = s.fcode := rfl
@[simp] theorem State.complete_finfo (s : State) : s.complete.finfo = s.finfo := rfl
@[simp] theorem State.complete_fpc (s : State) : s.complete.fpc = s.fpc := rfl
@[simp] theorem State.complete_cmdcnt (s : State) : s.complete.cmdcnt = s.cmdcnt + 1#32 := rfl
@[simp] theorem State.complete_ld (s : State) : s.complete.ld = s.ld := rfl
@[simp] theorem State.complete_li (s : State) : s.complete.li = s.li := rfl
@[simp] theorem State.complete_k (s : State) : s.complete.k = s.k := rfl
@[simp] theorem State.complete_olen (s : State) : s.complete.olen = s.olen := rfl
@[simp] theorem State.complete_peak (s : State) : s.complete.peak = s.peak := rfl
@[simp] theorem State.complete_xmem (s : State) : s.complete.xmem = s.xmem := rfl
@[simp] theorem State.complete_hmem (s : State) : s.complete.hmem = s.hmem := rfl
@[simp] theorem State.complete_bufa (s : State) : s.complete.bufa = s.bufa := rfl
@[simp] theorem State.complete_bufb (s : State) : s.complete.bufb = s.bufb := rfl
@[simp] theorem State.complete_omem (s : State) : s.complete.omem = s.omem := rfl
@[simp] theorem State.complete_pending (s : State) : s.complete.pending = s.pending := rfl
@[simp] theorem State.complete_reply (s : State) : s.complete.reply = s.reply := rfl
@[simp] theorem State.complete_draws (s : State) : s.complete.draws = s.draws := rfl

/-! ## `State.raise` -/

@[simp] theorem State.raise_kmax (s : State) (f : FaultCode) (info : Nat) : (s.raise f info).kmax = s.kmax := rfl
@[simp] theorem State.raise_halt (s : State) (f : FaultCode) (info : Nat) : (s.raise f info).halt = s.halt := rfl
@[simp] theorem State.raise_fault (s : State) (f : FaultCode) (info : Nat) : (s.raise f info).fault = true := rfl
@[simp] theorem State.raise_ovf (s : State) (f : FaultCode) (info : Nat) : (s.raise f info).ovf = s.ovf := rfl
@[simp] theorem State.raise_pkz (s : State) (f : FaultCode) (info : Nat) : (s.raise f info).pkz = s.pkz := rfl
@[simp] theorem State.raise_fcode (s : State) (f : FaultCode) (info : Nat) : (s.raise f info).fcode = faultCode f := rfl
@[simp] theorem State.raise_finfo (s : State) (f : FaultCode) (info : Nat) : (s.raise f info).finfo = BitVec.ofNat 32 info := rfl
@[simp] theorem State.raise_fpc (s : State) (f : FaultCode) (info : Nat) : (s.raise f info).fpc = s.cmdcnt := rfl
@[simp] theorem State.raise_cmdcnt (s : State) (f : FaultCode) (info : Nat) : (s.raise f info).cmdcnt = s.cmdcnt := rfl
@[simp] theorem State.raise_ld (s : State) (f : FaultCode) (info : Nat) : (s.raise f info).ld = s.ld := rfl
@[simp] theorem State.raise_li (s : State) (f : FaultCode) (info : Nat) : (s.raise f info).li = s.li := rfl
@[simp] theorem State.raise_k (s : State) (f : FaultCode) (info : Nat) : (s.raise f info).k = s.k := rfl
@[simp] theorem State.raise_olen (s : State) (f : FaultCode) (info : Nat) : (s.raise f info).olen = s.olen := rfl
@[simp] theorem State.raise_peak (s : State) (f : FaultCode) (info : Nat) : (s.raise f info).peak = s.peak := rfl
@[simp] theorem State.raise_xmem (s : State) (f : FaultCode) (info : Nat) : (s.raise f info).xmem = s.xmem := rfl
@[simp] theorem State.raise_hmem (s : State) (f : FaultCode) (info : Nat) : (s.raise f info).hmem = s.hmem := rfl
@[simp] theorem State.raise_bufa (s : State) (f : FaultCode) (info : Nat) : (s.raise f info).bufa = s.bufa := rfl
@[simp] theorem State.raise_bufb (s : State) (f : FaultCode) (info : Nat) : (s.raise f info).bufb = s.bufb := rfl
@[simp] theorem State.raise_omem (s : State) (f : FaultCode) (info : Nat) : (s.raise f info).omem = s.omem := rfl
@[simp] theorem State.raise_pending (s : State) (f : FaultCode) (info : Nat) : (s.raise f info).pending = s.pending := rfl
@[simp] theorem State.raise_reply (s : State) (f : FaultCode) (info : Nat) : (s.raise f info).reply = s.reply := rfl
@[simp] theorem State.raise_draws (s : State) (f : FaultCode) (info : Nat) : (s.raise f info).draws = s.draws := rfl

/-! ## `State.resetRegisters` -/

@[simp] theorem State.resetRegisters_kmax (s : State) : s.resetRegisters.kmax = s.kmax := rfl
@[simp] theorem State.resetRegisters_halt (s : State) : s.resetRegisters.halt = false := rfl
@[simp] theorem State.resetRegisters_fault (s : State) : s.resetRegisters.fault = false := rfl
@[simp] theorem State.resetRegisters_ovf (s : State) : s.resetRegisters.ovf = false := rfl
@[simp] theorem State.resetRegisters_pkz (s : State) : s.resetRegisters.pkz = false := rfl
@[simp] theorem State.resetRegisters_fcode (s : State) : s.resetRegisters.fcode = 0#4 := rfl
@[simp] theorem State.resetRegisters_finfo (s : State) : s.resetRegisters.finfo = 0#32 := rfl
@[simp] theorem State.resetRegisters_fpc (s : State) : s.resetRegisters.fpc = 0#32 := rfl
@[simp] theorem State.resetRegisters_cmdcnt (s : State) : s.resetRegisters.cmdcnt = 0#32 := rfl
@[simp] theorem State.resetRegisters_ld (s : State) : s.resetRegisters.ld = 0#26 := rfl
@[simp] theorem State.resetRegisters_li (s : State) : s.resetRegisters.li = 0#26 := rfl
@[simp] theorem State.resetRegisters_k (s : State) : s.resetRegisters.k = 0#5 := rfl
@[simp] theorem State.resetRegisters_olen (s : State) : s.resetRegisters.olen = 0#26 := rfl
@[simp] theorem State.resetRegisters_peak (s : State) : s.resetRegisters.peak = 0#64 := rfl
@[simp] theorem State.resetRegisters_xmem (s : State) : s.resetRegisters.xmem = s.xmem := rfl
@[simp] theorem State.resetRegisters_hmem (s : State) : s.resetRegisters.hmem = s.hmem := rfl
@[simp] theorem State.resetRegisters_bufa (s : State) : s.resetRegisters.bufa = s.bufa := rfl
@[simp] theorem State.resetRegisters_bufb (s : State) : s.resetRegisters.bufb = s.bufb := rfl
@[simp] theorem State.resetRegisters_omem (s : State) : s.resetRegisters.omem = s.omem := rfl
@[simp] theorem State.resetRegisters_pending (s : State) : s.resetRegisters.pending = s.pending := rfl
@[simp] theorem State.resetRegisters_reply (s : State) : s.resetRegisters.reply = s.reply := rfl
@[simp] theorem State.resetRegisters_draws (s : State) : s.resetRegisters.draws = s.draws := rfl

/-! ## `State.setBank` -/

@[simp] theorem State.setBank_kmax (s : State) (b : Buf) (d : Bank RealWord) : (s.setBank b d).kmax = s.kmax := by cases b <;> rfl
@[simp] theorem State.setBank_halt (s : State) (b : Buf) (d : Bank RealWord) : (s.setBank b d).halt = s.halt := by cases b <;> rfl
@[simp] theorem State.setBank_fault (s : State) (b : Buf) (d : Bank RealWord) : (s.setBank b d).fault = s.fault := by cases b <;> rfl
@[simp] theorem State.setBank_ovf (s : State) (b : Buf) (d : Bank RealWord) : (s.setBank b d).ovf = s.ovf := by cases b <;> rfl
@[simp] theorem State.setBank_pkz (s : State) (b : Buf) (d : Bank RealWord) : (s.setBank b d).pkz = s.pkz := by cases b <;> rfl
@[simp] theorem State.setBank_fcode (s : State) (b : Buf) (d : Bank RealWord) : (s.setBank b d).fcode = s.fcode := by cases b <;> rfl
@[simp] theorem State.setBank_finfo (s : State) (b : Buf) (d : Bank RealWord) : (s.setBank b d).finfo = s.finfo := by cases b <;> rfl
@[simp] theorem State.setBank_fpc (s : State) (b : Buf) (d : Bank RealWord) : (s.setBank b d).fpc = s.fpc := by cases b <;> rfl
@[simp] theorem State.setBank_cmdcnt (s : State) (b : Buf) (d : Bank RealWord) : (s.setBank b d).cmdcnt = s.cmdcnt := by cases b <;> rfl
@[simp] theorem State.setBank_ld (s : State) (b : Buf) (d : Bank RealWord) : (s.setBank b d).ld = s.ld := by cases b <;> rfl
@[simp] theorem State.setBank_li (s : State) (b : Buf) (d : Bank RealWord) : (s.setBank b d).li = s.li := by cases b <;> rfl
@[simp] theorem State.setBank_k (s : State) (b : Buf) (d : Bank RealWord) : (s.setBank b d).k = s.k := by cases b <;> rfl
@[simp] theorem State.setBank_olen (s : State) (b : Buf) (d : Bank RealWord) : (s.setBank b d).olen = s.olen := by cases b <;> rfl
@[simp] theorem State.setBank_peak (s : State) (b : Buf) (d : Bank RealWord) : (s.setBank b d).peak = s.peak := by cases b <;> rfl
@[simp] theorem State.setBank_xmem (s : State) (b : Buf) (d : Bank RealWord) : (s.setBank b d).xmem = s.xmem := by cases b <;> rfl
@[simp] theorem State.setBank_hmem (s : State) (b : Buf) (d : Bank RealWord) : (s.setBank b d).hmem = s.hmem := by cases b <;> rfl
@[simp] theorem State.setBank_omem (s : State) (b : Buf) (d : Bank RealWord) : (s.setBank b d).omem = s.omem := by cases b <;> rfl
@[simp] theorem State.setBank_pending (s : State) (b : Buf) (d : Bank RealWord) : (s.setBank b d).pending = s.pending := by cases b <;> rfl
@[simp] theorem State.setBank_reply (s : State) (b : Buf) (d : Bank RealWord) : (s.setBank b d).reply = s.reply := by cases b <;> rfl
@[simp] theorem State.setBank_draws (s : State) (b : Buf) (d : Bank RealWord) : (s.setBank b d).draws = s.draws := by cases b <;> rfl

/-! ## `State.setSamples` -/

@[simp] theorem State.setSamples_kmax (s : State) (b : Src) (d : Bank Sample) : (s.setSamples b d).kmax = s.kmax := by cases b <;> rfl
@[simp] theorem State.setSamples_halt (s : State) (b : Src) (d : Bank Sample) : (s.setSamples b d).halt = s.halt := by cases b <;> rfl
@[simp] theorem State.setSamples_fault (s : State) (b : Src) (d : Bank Sample) : (s.setSamples b d).fault = s.fault := by cases b <;> rfl
@[simp] theorem State.setSamples_ovf (s : State) (b : Src) (d : Bank Sample) : (s.setSamples b d).ovf = s.ovf := by cases b <;> rfl
@[simp] theorem State.setSamples_pkz (s : State) (b : Src) (d : Bank Sample) : (s.setSamples b d).pkz = s.pkz := by cases b <;> rfl
@[simp] theorem State.setSamples_fcode (s : State) (b : Src) (d : Bank Sample) : (s.setSamples b d).fcode = s.fcode := by cases b <;> rfl
@[simp] theorem State.setSamples_finfo (s : State) (b : Src) (d : Bank Sample) : (s.setSamples b d).finfo = s.finfo := by cases b <;> rfl
@[simp] theorem State.setSamples_fpc (s : State) (b : Src) (d : Bank Sample) : (s.setSamples b d).fpc = s.fpc := by cases b <;> rfl
@[simp] theorem State.setSamples_cmdcnt (s : State) (b : Src) (d : Bank Sample) : (s.setSamples b d).cmdcnt = s.cmdcnt := by cases b <;> rfl
@[simp] theorem State.setSamples_ld (s : State) (b : Src) (d : Bank Sample) : (s.setSamples b d).ld = s.ld := by cases b <;> rfl
@[simp] theorem State.setSamples_li (s : State) (b : Src) (d : Bank Sample) : (s.setSamples b d).li = s.li := by cases b <;> rfl
@[simp] theorem State.setSamples_k (s : State) (b : Src) (d : Bank Sample) : (s.setSamples b d).k = s.k := by cases b <;> rfl
@[simp] theorem State.setSamples_olen (s : State) (b : Src) (d : Bank Sample) : (s.setSamples b d).olen = s.olen := by cases b <;> rfl
@[simp] theorem State.setSamples_peak (s : State) (b : Src) (d : Bank Sample) : (s.setSamples b d).peak = s.peak := by cases b <;> rfl
@[simp] theorem State.setSamples_bufa (s : State) (b : Src) (d : Bank Sample) : (s.setSamples b d).bufa = s.bufa := by cases b <;> rfl
@[simp] theorem State.setSamples_bufb (s : State) (b : Src) (d : Bank Sample) : (s.setSamples b d).bufb = s.bufb := by cases b <;> rfl
@[simp] theorem State.setSamples_omem (s : State) (b : Src) (d : Bank Sample) : (s.setSamples b d).omem = s.omem := by cases b <;> rfl
@[simp] theorem State.setSamples_pending (s : State) (b : Src) (d : Bank Sample) : (s.setSamples b d).pending = s.pending := by cases b <;> rfl
@[simp] theorem State.setSamples_reply (s : State) (b : Src) (d : Bank Sample) : (s.setSamples b d).reply = s.reply := by cases b <;> rfl
@[simp] theorem State.setSamples_draws (s : State) (b : Src) (d : Bank Sample) : (s.setSamples b d).draws = s.draws := by cases b <;> rfl

/-! ## Accessors that an update leaves alone -/

@[simp] theorem State.setLd_bank (s : State) (v : Nat) (c : Buf) : (s.setLd v).bank c = s.bank c := by cases c <;> rfl
@[simp] theorem State.setLi_bank (s : State) (v : Nat) (c : Buf) : (s.setLi v).bank c = s.bank c := by cases c <;> rfl
@[simp] theorem State.setK_bank (s : State) (v : Nat) (c : Buf) : (s.setK v).bank c = s.bank c := by cases c <;> rfl
@[simp] theorem State.setOlen_bank (s : State) (v : Nat) (c : Buf) : (s.setOlen v).bank c = s.bank c := by cases c <;> rfl
@[simp] theorem State.setPeak_bank (s : State) (v : RealWord) (c : Buf) : (s.setPeak v).bank c = s.bank c := by cases c <;> rfl
@[simp] theorem State.setHalt_bank (s : State) (c : Buf) : s.setHalt.bank c = s.bank c := by cases c <;> rfl
@[simp] theorem State.setOvf_bank (s : State) (v : Bool) (c : Buf) : (s.setOvf v).bank c = s.bank c := by cases c <;> rfl
@[simp] theorem State.setPkz_bank (s : State) (v : Bool) (c : Buf) : (s.setPkz v).bank c = s.bank c := by cases c <;> rfl
@[simp] theorem State.setOutput_bank (s : State) (d : Bank Sample) (c : Buf) : (s.setOutput d).bank c = s.bank c := by cases c <;> rfl
@[simp] theorem State.drawn_bank (s : State) (c : Buf) : s.drawn.bank c = s.bank c := by cases c <;> rfl
@[simp] theorem State.setReply_bank (s : State) (r : Option HostWord) (c : Buf) : (s.setReply r).bank c = s.bank c := by cases c <;> rfl
@[simp] theorem State.setPending_bank (s : State) (ms : List HostMove) (c : Buf) : (s.setPending ms).bank c = s.bank c := by cases c <;> rfl
@[simp] theorem State.complete_bank (s : State) (c : Buf) : s.complete.bank c = s.bank c := by cases c <;> rfl
@[simp] theorem State.raise_bank (s : State) (f : FaultCode) (info : Nat) (c : Buf) : (s.raise f info).bank c = s.bank c := by cases c <;> rfl
@[simp] theorem State.resetRegisters_bank (s : State) (c : Buf) : s.resetRegisters.bank c = s.bank c := by cases c <;> rfl
@[simp] theorem State.setSamples_bank (s : State) (b : Src) (d : Bank Sample) (c : Buf) : (s.setSamples b d).bank c = s.bank c := by cases b <;> cases c <;> rfl
@[simp] theorem State.setLd_samples (s : State) (v : Nat) (c : Src) : (s.setLd v).samples c = s.samples c := by cases c <;> rfl
@[simp] theorem State.setLi_samples (s : State) (v : Nat) (c : Src) : (s.setLi v).samples c = s.samples c := by cases c <;> rfl
@[simp] theorem State.setK_samples (s : State) (v : Nat) (c : Src) : (s.setK v).samples c = s.samples c := by cases c <;> rfl
@[simp] theorem State.setOlen_samples (s : State) (v : Nat) (c : Src) : (s.setOlen v).samples c = s.samples c := by cases c <;> rfl
@[simp] theorem State.setPeak_samples (s : State) (v : RealWord) (c : Src) : (s.setPeak v).samples c = s.samples c := by cases c <;> rfl
@[simp] theorem State.setHalt_samples (s : State) (c : Src) : s.setHalt.samples c = s.samples c := by cases c <;> rfl
@[simp] theorem State.setOvf_samples (s : State) (v : Bool) (c : Src) : (s.setOvf v).samples c = s.samples c := by cases c <;> rfl
@[simp] theorem State.setPkz_samples (s : State) (v : Bool) (c : Src) : (s.setPkz v).samples c = s.samples c := by cases c <;> rfl
@[simp] theorem State.setOutput_samples (s : State) (d : Bank Sample) (c : Src) : (s.setOutput d).samples c = s.samples c := by cases c <;> rfl
@[simp] theorem State.drawn_samples (s : State) (c : Src) : s.drawn.samples c = s.samples c := by cases c <;> rfl
@[simp] theorem State.setReply_samples (s : State) (r : Option HostWord) (c : Src) : (s.setReply r).samples c = s.samples c := by cases c <;> rfl
@[simp] theorem State.setPending_samples (s : State) (ms : List HostMove) (c : Src) : (s.setPending ms).samples c = s.samples c := by cases c <;> rfl
@[simp] theorem State.complete_samples (s : State) (c : Src) : s.complete.samples c = s.samples c := by cases c <;> rfl
@[simp] theorem State.raise_samples (s : State) (f : FaultCode) (info : Nat) (c : Src) : (s.raise f info).samples c = s.samples c := by cases c <;> rfl
@[simp] theorem State.resetRegisters_samples (s : State) (c : Src) : s.resetRegisters.samples c = s.samples c := by cases c <;> rfl
@[simp] theorem State.setBank_samples (s : State) (b : Buf) (d : Bank RealWord) (c : Src) : (s.setBank b d).samples c = s.samples c := by cases b <;> cases c <;> rfl
@[simp] theorem State.setLd_output (s : State) (v : Nat) : (s.setLd v).output = s.output := rfl
@[simp] theorem State.setLi_output (s : State) (v : Nat) : (s.setLi v).output = s.output := rfl
@[simp] theorem State.setK_output (s : State) (v : Nat) : (s.setK v).output = s.output := rfl
@[simp] theorem State.setOlen_output (s : State) (v : Nat) : (s.setOlen v).output = s.output := rfl
@[simp] theorem State.setPeak_output (s : State) (v : RealWord) : (s.setPeak v).output = s.output := rfl
@[simp] theorem State.setHalt_output (s : State) : s.setHalt.output = s.output := rfl
@[simp] theorem State.setOvf_output (s : State) (v : Bool) : (s.setOvf v).output = s.output := rfl
@[simp] theorem State.setPkz_output (s : State) (v : Bool) : (s.setPkz v).output = s.output := rfl
@[simp] theorem State.drawn_output (s : State) : s.drawn.output = s.output := rfl
@[simp] theorem State.setReply_output (s : State) (r : Option HostWord) : (s.setReply r).output = s.output := rfl
@[simp] theorem State.setPending_output (s : State) (ms : List HostMove) : (s.setPending ms).output = s.output := rfl
@[simp] theorem State.complete_output (s : State) : s.complete.output = s.output := rfl
@[simp] theorem State.raise_output (s : State) (f : FaultCode) (info : Nat) : (s.raise f info).output = s.output := rfl
@[simp] theorem State.resetRegisters_output (s : State) : s.resetRegisters.output = s.output := rfl
@[simp] theorem State.setBank_output (s : State) (b : Buf) (d : Bank RealWord) : (s.setBank b d).output = s.output := by cases b <;> rfl
@[simp] theorem State.setSamples_output (s : State) (b : Src) (d : Bank Sample) : (s.setSamples b d).output = s.output := by cases b <;> rfl
@[simp] theorem State.setLd_kNat (s : State) (v : Nat) : (s.setLd v).kNat = s.kNat := rfl
@[simp] theorem State.setLi_kNat (s : State) (v : Nat) : (s.setLi v).kNat = s.kNat := rfl
@[simp] theorem State.setOlen_kNat (s : State) (v : Nat) : (s.setOlen v).kNat = s.kNat := rfl
@[simp] theorem State.setPeak_kNat (s : State) (v : RealWord) : (s.setPeak v).kNat = s.kNat := rfl
@[simp] theorem State.setHalt_kNat (s : State) : s.setHalt.kNat = s.kNat := rfl
@[simp] theorem State.setOvf_kNat (s : State) (v : Bool) : (s.setOvf v).kNat = s.kNat := rfl
@[simp] theorem State.setPkz_kNat (s : State) (v : Bool) : (s.setPkz v).kNat = s.kNat := rfl
@[simp] theorem State.setOutput_kNat (s : State) (d : Bank Sample) : (s.setOutput d).kNat = s.kNat := rfl
@[simp] theorem State.drawn_kNat (s : State) : s.drawn.kNat = s.kNat := rfl
@[simp] theorem State.setReply_kNat (s : State) (r : Option HostWord) : (s.setReply r).kNat = s.kNat := rfl
@[simp] theorem State.setPending_kNat (s : State) (ms : List HostMove) : (s.setPending ms).kNat = s.kNat := rfl
@[simp] theorem State.complete_kNat (s : State) : s.complete.kNat = s.kNat := rfl
@[simp] theorem State.raise_kNat (s : State) (f : FaultCode) (info : Nat) : (s.raise f info).kNat = s.kNat := rfl
@[simp] theorem State.setBank_kNat (s : State) (b : Buf) (d : Bank RealWord) : (s.setBank b d).kNat = s.kNat := by cases b <;> rfl
@[simp] theorem State.setSamples_kNat (s : State) (b : Src) (d : Bank Sample) : (s.setSamples b d).kNat = s.kNat := by cases b <;> rfl
@[simp] theorem State.setLd_txLen (s : State) (v : Nat) : (s.setLd v).txLen = s.txLen := rfl
@[simp] theorem State.setLi_txLen (s : State) (v : Nat) : (s.setLi v).txLen = s.txLen := rfl
@[simp] theorem State.setOlen_txLen (s : State) (v : Nat) : (s.setOlen v).txLen = s.txLen := rfl
@[simp] theorem State.setPeak_txLen (s : State) (v : RealWord) : (s.setPeak v).txLen = s.txLen := rfl
@[simp] theorem State.setHalt_txLen (s : State) : s.setHalt.txLen = s.txLen := rfl
@[simp] theorem State.setOvf_txLen (s : State) (v : Bool) : (s.setOvf v).txLen = s.txLen := rfl
@[simp] theorem State.setPkz_txLen (s : State) (v : Bool) : (s.setPkz v).txLen = s.txLen := rfl
@[simp] theorem State.setOutput_txLen (s : State) (d : Bank Sample) : (s.setOutput d).txLen = s.txLen := rfl
@[simp] theorem State.drawn_txLen (s : State) : s.drawn.txLen = s.txLen := rfl
@[simp] theorem State.setReply_txLen (s : State) (r : Option HostWord) : (s.setReply r).txLen = s.txLen := rfl
@[simp] theorem State.setPending_txLen (s : State) (ms : List HostMove) : (s.setPending ms).txLen = s.txLen := rfl
@[simp] theorem State.complete_txLen (s : State) : s.complete.txLen = s.txLen := rfl
@[simp] theorem State.raise_txLen (s : State) (f : FaultCode) (info : Nat) : (s.raise f info).txLen = s.txLen := rfl
@[simp] theorem State.setBank_txLen (s : State) (b : Buf) (d : Bank RealWord) : (s.setBank b d).txLen = s.txLen := by cases b <;> rfl
@[simp] theorem State.setSamples_txLen (s : State) (b : Src) (d : Bank Sample) : (s.setSamples b d).txLen = s.txLen := by cases b <;> rfl
@[simp] theorem State.setLd_nmax (s : State) (v : Nat) : (s.setLd v).nmax = s.nmax := rfl
@[simp] theorem State.setLi_nmax (s : State) (v : Nat) : (s.setLi v).nmax = s.nmax := rfl
@[simp] theorem State.setK_nmax (s : State) (v : Nat) : (s.setK v).nmax = s.nmax := rfl
@[simp] theorem State.setOlen_nmax (s : State) (v : Nat) : (s.setOlen v).nmax = s.nmax := rfl
@[simp] theorem State.setPeak_nmax (s : State) (v : RealWord) : (s.setPeak v).nmax = s.nmax := rfl
@[simp] theorem State.setHalt_nmax (s : State) : s.setHalt.nmax = s.nmax := rfl
@[simp] theorem State.setOvf_nmax (s : State) (v : Bool) : (s.setOvf v).nmax = s.nmax := rfl
@[simp] theorem State.setPkz_nmax (s : State) (v : Bool) : (s.setPkz v).nmax = s.nmax := rfl
@[simp] theorem State.setOutput_nmax (s : State) (d : Bank Sample) : (s.setOutput d).nmax = s.nmax := rfl
@[simp] theorem State.drawn_nmax (s : State) : s.drawn.nmax = s.nmax := rfl
@[simp] theorem State.setReply_nmax (s : State) (r : Option HostWord) : (s.setReply r).nmax = s.nmax := rfl
@[simp] theorem State.setPending_nmax (s : State) (ms : List HostMove) : (s.setPending ms).nmax = s.nmax := rfl
@[simp] theorem State.complete_nmax (s : State) : s.complete.nmax = s.nmax := rfl
@[simp] theorem State.raise_nmax (s : State) (f : FaultCode) (info : Nat) : (s.raise f info).nmax = s.nmax := rfl
@[simp] theorem State.resetRegisters_nmax (s : State) : s.resetRegisters.nmax = s.nmax := rfl
@[simp] theorem State.setBank_nmax (s : State) (b : Buf) (d : Bank RealWord) : (s.setBank b d).nmax = s.nmax := by cases b <;> rfl
@[simp] theorem State.setSamples_nmax (s : State) (b : Src) (d : Bank Sample) : (s.setSamples b d).nmax = s.nmax := by cases b <;> rfl
@[simp] theorem State.setK_convLen (s : State) (v : Nat) : (s.setK v).convLen = s.convLen := rfl
@[simp] theorem State.setOlen_convLen (s : State) (v : Nat) : (s.setOlen v).convLen = s.convLen := rfl
@[simp] theorem State.setPeak_convLen (s : State) (v : RealWord) : (s.setPeak v).convLen = s.convLen := rfl
@[simp] theorem State.setHalt_convLen (s : State) : s.setHalt.convLen = s.convLen := rfl
@[simp] theorem State.setOvf_convLen (s : State) (v : Bool) : (s.setOvf v).convLen = s.convLen := rfl
@[simp] theorem State.setPkz_convLen (s : State) (v : Bool) : (s.setPkz v).convLen = s.convLen := rfl
@[simp] theorem State.setOutput_convLen (s : State) (d : Bank Sample) : (s.setOutput d).convLen = s.convLen := rfl
@[simp] theorem State.drawn_convLen (s : State) : s.drawn.convLen = s.convLen := rfl
@[simp] theorem State.setReply_convLen (s : State) (r : Option HostWord) : (s.setReply r).convLen = s.convLen := rfl
@[simp] theorem State.setPending_convLen (s : State) (ms : List HostMove) : (s.setPending ms).convLen = s.convLen := rfl
@[simp] theorem State.complete_convLen (s : State) : s.complete.convLen = s.convLen := rfl
@[simp] theorem State.raise_convLen (s : State) (f : FaultCode) (info : Nat) : (s.raise f info).convLen = s.convLen := rfl
@[simp] theorem State.setBank_convLen (s : State) (b : Buf) (d : Bank RealWord) : (s.setBank b d).convLen = s.convLen := by cases b <;> rfl
@[simp] theorem State.setSamples_convLen (s : State) (b : Src) (d : Bank Sample) : (s.setSamples b d).convLen = s.convLen := by cases b <;> rfl
@[simp] theorem State.setK_lensPositive (s : State) (v : Nat) : (s.setK v).lensPositive = s.lensPositive := rfl
@[simp] theorem State.setOlen_lensPositive (s : State) (v : Nat) : (s.setOlen v).lensPositive = s.lensPositive := rfl
@[simp] theorem State.setPeak_lensPositive (s : State) (v : RealWord) : (s.setPeak v).lensPositive = s.lensPositive := rfl
@[simp] theorem State.setHalt_lensPositive (s : State) : s.setHalt.lensPositive = s.lensPositive := rfl
@[simp] theorem State.setOvf_lensPositive (s : State) (v : Bool) : (s.setOvf v).lensPositive = s.lensPositive := rfl
@[simp] theorem State.setPkz_lensPositive (s : State) (v : Bool) : (s.setPkz v).lensPositive = s.lensPositive := rfl
@[simp] theorem State.setOutput_lensPositive (s : State) (d : Bank Sample) : (s.setOutput d).lensPositive = s.lensPositive := rfl
@[simp] theorem State.drawn_lensPositive (s : State) : s.drawn.lensPositive = s.lensPositive := rfl
@[simp] theorem State.setReply_lensPositive (s : State) (r : Option HostWord) : (s.setReply r).lensPositive = s.lensPositive := rfl
@[simp] theorem State.setPending_lensPositive (s : State) (ms : List HostMove) : (s.setPending ms).lensPositive = s.lensPositive := rfl
@[simp] theorem State.complete_lensPositive (s : State) : s.complete.lensPositive = s.lensPositive := rfl
@[simp] theorem State.raise_lensPositive (s : State) (f : FaultCode) (info : Nat) : (s.raise f info).lensPositive = s.lensPositive := rfl
@[simp] theorem State.setBank_lensPositive (s : State) (b : Buf) (d : Bank RealWord) : (s.setBank b d).lensPositive = s.lensPositive := by cases b <;> rfl
@[simp] theorem State.setSamples_lensPositive (s : State) (b : Src) (d : Bank Sample) : (s.setSamples b d).lensPositive = s.lensPositive := by cases b <;> rfl
@[simp] theorem State.setK_srcLen (s : State) (v : Nat) (c : Src) : (s.setK v).srcLen c = s.srcLen c := by cases c <;> rfl
@[simp] theorem State.setOlen_srcLen (s : State) (v : Nat) (c : Src) : (s.setOlen v).srcLen c = s.srcLen c := by cases c <;> rfl
@[simp] theorem State.setPeak_srcLen (s : State) (v : RealWord) (c : Src) : (s.setPeak v).srcLen c = s.srcLen c := by cases c <;> rfl
@[simp] theorem State.setHalt_srcLen (s : State) (c : Src) : s.setHalt.srcLen c = s.srcLen c := by cases c <;> rfl
@[simp] theorem State.setOvf_srcLen (s : State) (v : Bool) (c : Src) : (s.setOvf v).srcLen c = s.srcLen c := by cases c <;> rfl
@[simp] theorem State.setPkz_srcLen (s : State) (v : Bool) (c : Src) : (s.setPkz v).srcLen c = s.srcLen c := by cases c <;> rfl
@[simp] theorem State.setOutput_srcLen (s : State) (d : Bank Sample) (c : Src) : (s.setOutput d).srcLen c = s.srcLen c := by cases c <;> rfl
@[simp] theorem State.drawn_srcLen (s : State) (c : Src) : s.drawn.srcLen c = s.srcLen c := by cases c <;> rfl
@[simp] theorem State.setReply_srcLen (s : State) (r : Option HostWord) (c : Src) : (s.setReply r).srcLen c = s.srcLen c := by cases c <;> rfl
@[simp] theorem State.setPending_srcLen (s : State) (ms : List HostMove) (c : Src) : (s.setPending ms).srcLen c = s.srcLen c := by cases c <;> rfl
@[simp] theorem State.complete_srcLen (s : State) (c : Src) : s.complete.srcLen c = s.srcLen c := by cases c <;> rfl
@[simp] theorem State.raise_srcLen (s : State) (f : FaultCode) (info : Nat) (c : Src) : (s.raise f info).srcLen c = s.srcLen c := by cases c <;> rfl
@[simp] theorem State.setBank_srcLen (s : State) (b : Buf) (d : Bank RealWord) (c : Src) : (s.setBank b d).srcLen c = s.srcLen c := by cases b <;> cases c <;> rfl
@[simp] theorem State.setSamples_srcLen (s : State) (b : Src) (d : Bank Sample) (c : Src) : (s.setSamples b d).srcLen c = s.srcLen c := by cases b <;> cases c <;> rfl
@[simp] theorem State.setLd_stopped (s : State) (v : Nat) : (s.setLd v).stopped = s.stopped := rfl
@[simp] theorem State.setLi_stopped (s : State) (v : Nat) : (s.setLi v).stopped = s.stopped := rfl
@[simp] theorem State.setK_stopped (s : State) (v : Nat) : (s.setK v).stopped = s.stopped := rfl
@[simp] theorem State.setOlen_stopped (s : State) (v : Nat) : (s.setOlen v).stopped = s.stopped := rfl
@[simp] theorem State.setPeak_stopped (s : State) (v : RealWord) : (s.setPeak v).stopped = s.stopped := rfl
@[simp] theorem State.setOvf_stopped (s : State) (v : Bool) : (s.setOvf v).stopped = s.stopped := rfl
@[simp] theorem State.setPkz_stopped (s : State) (v : Bool) : (s.setPkz v).stopped = s.stopped := rfl
@[simp] theorem State.setOutput_stopped (s : State) (d : Bank Sample) : (s.setOutput d).stopped = s.stopped := rfl
@[simp] theorem State.drawn_stopped (s : State) : s.drawn.stopped = s.stopped := rfl
@[simp] theorem State.setReply_stopped (s : State) (r : Option HostWord) : (s.setReply r).stopped = s.stopped := rfl
@[simp] theorem State.setPending_stopped (s : State) (ms : List HostMove) : (s.setPending ms).stopped = s.stopped := rfl
@[simp] theorem State.complete_stopped (s : State) : s.complete.stopped = s.stopped := rfl
@[simp] theorem State.setBank_stopped (s : State) (b : Buf) (d : Bank RealWord) : (s.setBank b d).stopped = s.stopped := by cases b <;> rfl
@[simp] theorem State.setSamples_stopped (s : State) (b : Src) (d : Bank Sample) : (s.setSamples b d).stopped = s.stopped := by cases b <;> rfl

/-! ## A memory put back is the memory read -/

@[simp] theorem otherBuf_ne (b : Buf) : otherBuf b ≠ b := by cases b <;> decide

@[simp] theorem otherBuf_otherBuf (b : Buf) : otherBuf (otherBuf b) = b := by cases b <;> rfl

@[simp] theorem State.setBank_bank_cells (s : State) (b : Buf) (d : Bank RealWord) : ((s.setBank b d).bank b).cells = d.cells := by
  cases b <;> rfl

@[simp] theorem State.setBank_bank_unwritten (s : State) (b c : Buf) (d : Bank RealWord) :
    ((s.setBank b d).bank c).unwritten = (s.bank c).unwritten := by
  cases b <;> cases c <;> rfl

theorem State.setBank_bank_same (s : State) (b : Buf) (d : Bank RealWord) (h : d.unwritten = (s.bank b).unwritten) :
    (s.setBank b d).bank b = d := by
  cases d; cases b <;> cases h <;> rfl

@[simp] theorem State.setBank_bank_other (s : State) (b : Buf) (d : Bank RealWord) :
    (s.setBank b d).bank (otherBuf b) = s.bank (otherBuf b) := by
  cases b <;> rfl

@[simp] theorem State.setBank_bank_self (s : State) (b : Buf) : s.setBank b (s.bank b) = s := by cases b <;> rfl

@[simp] theorem State.setBank_setBank (s : State) (b : Buf) (d e : Bank RealWord) : (s.setBank b d).setBank b e = s.setBank b e := by
  cases b <;> rfl

@[simp] theorem State.setSamples_samples_cells (s : State) (c : Src) (d : Bank Sample) :
    ((s.setSamples c d).samples c).cells = d.cells := by
  cases c <;> rfl

@[simp] theorem State.setSamples_samples_unwritten (s : State) (c e : Src) (d : Bank Sample) :
    ((s.setSamples c d).samples e).unwritten = (s.samples e).unwritten := by
  cases c <;> cases e <;> rfl

@[simp] theorem State.setOutput_output_cells (s : State) (d : Bank Sample) : (s.setOutput d).output.cells = d.cells := rfl

@[simp] theorem State.setOutput_output_unwritten (s : State) (d : Bank Sample) :
    (s.setOutput d).output.unwritten = s.output.unwritten := rfl

theorem State.setOutput_output_same (s : State) (d : Bank Sample) (h : d.unwritten = s.output.unwritten) :
    (s.setOutput d).output = d := by
  cases d; cases h; rfl

end Sys2Proof.Machine
end

