-- ==== Sys2Proof/Laws/Memory.lean ====
section
/-! SUPPORT. The laws of a word memory: read after write, the canonical form and the size are kept, and what a loop of
writes can do to a bank. -/

namespace Sys2Proof.Machine

variable {α : Type}

/-! ## `Mem.fetch` and `Mem.store` -/

@[simp] theorem Mem.fetch_store_same (m : Mem α) (a : Nat) (v : α) : (m.store a v).fetch a = some v := by
  induction m with
  | nil => simp [Mem.store, Mem.fetch]
  | cons c m ih =>
    obtain ⟨b, w⟩ := c
    unfold Mem.store
    split
    · simp [Mem.fetch]
    · split
      · simp [Mem.fetch]
      · simp [Mem.fetch, *]

theorem Mem.fetch_store_ne (m : Mem α) {a c : Nat} (v : α) (h : c ≠ a) : (m.store a v).fetch c = m.fetch c := by
  induction m with
  | nil => simp [Mem.store, Mem.fetch, h]
  | cons e m ih =>
    obtain ⟨b, w⟩ := e
    unfold Mem.store
    split
    · simp [Mem.fetch, h]
    · split
      · rename_i _ hab
        subst hab
        simp [Mem.fetch, h]
      · simp [Mem.fetch, ih]

theorem Mem.fetch_store (m : Mem α) (a c : Nat) (v : α) : (m.store a v).fetch c = if c = a then some v else m.fetch c := by
  split
  · rename_i h; subst h; simp
  · exact Mem.fetch_store_ne m v ‹_›

theorem Mem.mem_store {m : Mem α} {a : Nat} {v : α} {c : Nat × α} (h : c ∈ m.store a v) : c = (a, v) ∨ c ∈ m := by
  induction m with
  | nil => simpa [Mem.store] using h
  | cons e m ih =>
    obtain ⟨b, w⟩ := e
    unfold Mem.store at h
    split at h
    · simpa using h
    · split at h
      · rcases List.mem_cons.1 h with h | h
        · exact .inl h
        · exact .inr (List.mem_cons_of_mem _ h)
      · rcases List.mem_cons.1 h with h | h
        · exact .inr (h ▸ List.mem_cons_self)
        · exact (ih h).imp id (List.mem_cons_of_mem _)

theorem Mem.wf_nil : Mem.wf ([] : Mem α) := List.Pairwise.nil

/-- A write keeps indices strictly rising. -/
theorem Mem.store_wf {m : Mem α} (h : m.wf) (a : Nat) (v : α) : (m.store a v).wf := by
  induction m with
  | nil => simp [Mem.store, Mem.wf]
  | cons e m ih =>
    obtain ⟨b, w⟩ := e
    simp only [Mem.wf, List.map_cons, List.pairwise_cons] at h ih ⊢
    unfold Mem.store
    split
    · rename_i hab
      simp only [List.map_cons, List.pairwise_cons]
      refine ⟨?_, h⟩
      intro x hx
      rcases List.mem_cons.1 hx with rfl | hx
      · exact hab
      · exact lt_trans hab (h.1 x hx)
    · split
      · rename_i _ hab
        subst hab
        simpa using h
      · rename_i h1 h2
        simp only [List.map_cons, List.pairwise_cons]
        refine ⟨?_, ih h.2⟩
        intro x hx
        obtain ⟨c, hc, rfl⟩ := List.mem_map.1 hx
        rcases Mem.mem_store hc with rfl | hc
        · show b < a; omega
        · exact h.1 _ (List.mem_map_of_mem hc)

/-- A write inside the space keeps every index inside it. -/
theorem Mem.store_within {m : Mem α} {n a : Nat} (h : m.within n) (ha : a < n) (v : α) : (m.store a v).within n := by
  intro c hc
  rcases Mem.mem_store hc with rfl | hc
  · exact ha
  · exact h c hc

/-! ## Banks -/

@[simp] theorem Bank.write_unwritten (d : Bank α) (a : Nat) (v : α) : (d.write a v).unwritten = d.unwritten := rfl

@[simp] theorem Bank.setData_unwritten (d : Bank α) (i : Nat) (v : α) : (d.setData i v).unwritten = d.unwritten := rfl

@[simp] theorem Bank.write_cells (d : Bank α) (a : Nat) (v : α) : (d.write a v).cells = d.cells.store a v := rfl

@[simp] theorem Bank.setData_cells (d : Bank α) (i : Nat) (v : α) : (d.setData i v).cells = d.cells.store (i - 1) v := rfl

theorem Bank.read_write (d : Bank α) (a c : Nat) (v : α) : (d.write a v).read c = if c = a then v else d.read c := by
  unfold Bank.read Bank.write
  simp only [Mem.fetch_store]
  split <;> rfl

@[simp] theorem Bank.read_write_same (d : Bank α) (a : Nat) (v : α) : (d.write a v).read a = v := by
  simp [Bank.read_write]

theorem Bank.read_write_ne (d : Bank α) {a c : Nat} (v : α) (h : c ≠ a) : (d.write a v).read c = d.read c := by
  simp [Bank.read_write, h]

/-- The engine's word i after a write of word j (both from 1). -/
theorem Bank.data_setData (d : Bank α) {i j : Nat} (hi : 1 ≤ i) (hj : 1 ≤ j) (v : α) :
    (d.setData j v).data i = if i = j then v else d.data i := by
  unfold Bank.data Bank.setData
  rw [Bank.read_write]
  have : i - 1 = j - 1 ↔ i = j := by omega
  simp [this]

@[simp] theorem Bank.data_setData_same (d : Bank α) (i : Nat) (v : α) : (d.setData i v).data i = v := by
  simp [Bank.data, Bank.setData]

/-- A physical word other than j − 1 after a write of engine word j. -/
theorem Bank.read_setData_ne (d : Bank α) {a j : Nat} (v : α) (h : a ≠ j - 1) : (d.setData j v).read a = d.read a :=
  Bank.read_write_ne d v h

/-! ## What a piece of engine work leaves alone -/

/-- `e` is `d` after writes to physical words below `n` only: every other word reads as before, unwritten words hold what
they held, and the canonical form and any size that has room for `n` words are kept. -/
structure Bank.WritesBelow (n : Nat) (d e : Bank α) : Prop where
  unwritten : e.unwritten = d.unwritten
  fetch : ∀ a, n ≤ a → e.cells.fetch a = d.cells.fetch a
  wf : d.cells.wf → e.cells.wf
  within : ∀ size, n ≤ size → d.cells.within size → e.cells.within size

theorem Bank.WritesBelow.refl (n : Nat) (d : Bank α) : Bank.WritesBelow n d d := ⟨rfl, fun _ _ => rfl, id, fun _ _ h => h⟩

theorem Bank.WritesBelow.trans {n : Nat} {d e f : Bank α} (h : Bank.WritesBelow n d e) (k : Bank.WritesBelow n e f) :
    Bank.WritesBelow n d f :=
  ⟨k.unwritten.trans h.unwritten, fun a ha => (k.fetch a ha).trans (h.fetch a ha), fun w => k.wf (h.wf w),
    fun size hs w => k.within size hs (h.within size hs w)⟩

theorem Bank.WritesBelow.read {n : Nat} {d e : Bank α} (h : Bank.WritesBelow n d e) {a : Nat} (ha : n ≤ a) : e.read a = d.read a := by
  simp [Bank.read, h.fetch a ha, h.unwritten]

theorem Bank.WritesBelow.mono {n m : Nat} {d e : Bank α} (h : Bank.WritesBelow n d e) (hnm : n ≤ m) : Bank.WritesBelow m d e :=
  ⟨h.unwritten, fun a ha => h.fetch a (hnm.trans ha), h.wf, fun size hs w => h.within size (hnm.trans hs) w⟩

theorem Bank.writesBelow_write {n a : Nat} (d : Bank α) (v : α) (ha : a < n) : Bank.WritesBelow n d (d.write a v) :=
  ⟨rfl, fun c hc => Mem.fetch_store_ne _ v (by omega), fun w => Mem.store_wf w a v,
    fun _ hs w => Mem.store_within w (by omega) v⟩

theorem Bank.writesBelow_setData {n i : Nat} (d : Bank α) (v : α) (hi : 1 ≤ i) (hn : i ≤ n) : Bank.WritesBelow n d (d.setData i v) :=
  Bank.writesBelow_write d v (by omega)

/-- A loop whose every turn writes below `n` writes below `n`. -/
theorem Bank.writesBelow_foldl {β : Type} {n : Nat} (f : Bank α → β → Bank α) (l : List β)
    (h : ∀ d, ∀ x ∈ l, Bank.WritesBelow n d (f d x)) (d : Bank α) : Bank.WritesBelow n d (l.foldl f d) := by
  induction l generalizing d with
  | nil => exact .refl n d
  | cons x l ih =>
    exact (h d x List.mem_cons_self).trans (ih (fun e y hy => h e y (List.mem_cons_of_mem _ hy)) _)

/-- A loop in which one turn owns the words `own`: no other turn changes them, and what the turn leaves in them depends on
them only. Then the loop leaves in them what that turn alone would. -/
theorem Bank.foldl_read_of_own {β : Type} (f : Bank α → β → Bank α) (own : Nat → Prop) (x : β) (d : Bank α)
    (hself : ∀ e, (∀ a, own a → e.read a = d.read a) → ∀ a, own a → (f e x).read a = (f d x).read a) :
    ∀ (l : List β), l.Nodup → x ∈ l → (∀ y ∈ l, y ≠ x → ∀ e a, own a → (f e y).read a = e.read a) →
      ∀ e, (∀ a, own a → e.read a = d.read a) → ∀ a, own a → (l.foldl f e).read a = (f d x).read a := by
  have hrest : ∀ (l : List β), (∀ y ∈ l, ∀ e a, own a → (f e y).read a = e.read a) →
      ∀ e a, own a → (l.foldl f e).read a = e.read a := by
    intro l
    induction l with
    | nil => exact fun _ _ _ _ => rfl
    | cons y l ih =>
      intro h e a ha
      rw [List.foldl_cons, ih (fun z hz => h z (List.mem_cons_of_mem _ hz)) _ a ha]
      exact h y List.mem_cons_self e a ha
  intro l
  induction l with
  | nil => exact fun _ h => absurd h List.not_mem_nil
  | cons y l ih =>
    intro hn hx h e he a ha
    obtain ⟨hy, hl⟩ := List.nodup_cons.1 hn
    rw [List.foldl_cons]
    by_cases hyx : y = x
    · subst hyx
      rw [hrest l (fun z hz => h z (List.mem_cons_of_mem _ hz) (fun hzy => hy (hzy ▸ hz))) _ a ha]
      exact hself e he a ha
    · have hx' : x ∈ l := (List.mem_cons.1 hx).resolve_left (fun hxy => hyx hxy.symm)
      refine ih hl hx' (fun z hz => h z (List.mem_cons_of_mem _ hz)) _ (fun c hc => ?_) a ha
      rw [h y List.mem_cons_self hyx e c hc]
      exact he c hc

/-! ## Loop ranges -/

theorem nodup_rangeStep {a b s : Nat} (hs : 0 < s) : (rangeStep a b s).Nodup := List.nodup_range' s hs

theorem mem_rangeStep {a b s v : Nat} (hs : 0 < s) : v ∈ rangeStep a b s ↔ a ≤ v ∧ v ≤ b ∧ (v - a) % s = 0 := by
  unfold rangeStep
  rw [List.mem_range']
  constructor
  · rintro ⟨i, hi, rfl⟩
    have h1 : (i + 1) * s ≤ b + s - a := by
      calc (i + 1) * s ≤ (b + s - a) / s * s := Nat.mul_le_mul_right s hi
        _ ≤ b + s - a := Nat.div_mul_le_self _ _
    have h2 : s * i + s = (i + 1) * s := by ring
    refine ⟨by omega, by omega, ?_⟩
    simp
  · rintro ⟨h1, h2, h3⟩
    refine ⟨(v - a) / s, ?_, ?_⟩
    · rw [Nat.lt_iff_add_one_le, Nat.le_div_iff_mul_le hs]
      have h4 := Nat.div_mul_le_self (v - a) s
      have h5 : ((v - a) / s + 1) * s = (v - a) / s * s + s := by ring
      omega
    · have h4 := Nat.div_add_mod (v - a) s
      rw [h3] at h4
      omega

@[simp] theorem mem_rangeTo {a b v : Nat} : v ∈ rangeTo a b ↔ a ≤ v ∧ v ≤ b := by
  unfold rangeTo
  rw [mem_rangeStep Nat.one_pos]
  simp [Nat.mod_one]

theorem rangeTo_eq_range' (a b : Nat) : rangeTo a b = List.range' a (b + 1 - a) := by
  simp [rangeTo, rangeStep]

end Sys2Proof.Machine
end

