-- ==== Sys2Proof/Laws/Engine.lean ====
section
/-! SUPPORT. What each unit can do to the bank it works on: it writes words of the active region only (spec rules R53, R57).
One lemma per unit, from which frames and invariants follow. -/

namespace Sys2Proof.Machine

variable {F : Type}

/-! ## Bit reversal -/

theorem rev_lt (k p : Nat) : rev k p < 2 ^ k := by
  induction k generalizing p with
  | zero => simp [rev]
  | succ k ih =>
    have h := ih (p / 2)
    have h2 : p % 2 * 2 ^ k ≤ 1 * 2 ^ k := Nat.mul_le_mul_right _ (by omega)
    simp only [rev, pow_succ]
    omega

theorem swapEntries_writesBelow {n p q : Nat} (hp : 2 * p + 2 ≤ n) (hq : 2 * q + 2 ≤ n) (d : Bank F) :
    Bank.WritesBelow n d (swapEntries d p q) := by
  unfold swapEntries
  exact (((Bank.writesBelow_setData _ _ (by omega) (by omega)).trans (Bank.writesBelow_setData _ _ (by omega) (by omega))).trans
    (Bank.writesBelow_setData _ _ (by omega) (by omega))).trans (Bank.writesBelow_setData _ _ (by omega) (by omega))

/-- BITREV writes words 1..2N only. -/
theorem bitrevBank_writesBelow (k : Nat) (d : Bank F) : Bank.WritesBelow (2 * 2 ^ k) d (bitrevBank k d) := by
  refine Bank.writesBelow_foldl _ _ (fun e p hp => ?_) d
  have hp := mem_rangeTo.1 hp
  have hq := rev_lt k p
  have hk : 0 < 2 ^ k := Nat.two_pow_pos k
  unfold bitrevAt
  split
  · exact swapEntries_writesBelow (by omega) (by omega) e
  · exact .refl _ _

/-! ## Butterflies -/

theorem butterflyAt_writesBelow {n i : Nat} (A : Arith F) (stage mmax : Nat) (w : F × F) (hi : 1 ≤ i) (hn : i + mmax + 1 ≤ n)
    (d : Bank F) : Bank.WritesBelow n d (butterflyAt A stage mmax w d i) := by
  unfold butterflyAt
  exact (((Bank.writesBelow_setData _ _ (by omega) (by omega)).trans (Bank.writesBelow_setData _ _ (by omega) (by omega))).trans
    (Bank.writesBelow_setData _ _ (by omega) (by omega))).trans (Bank.writesBelow_setData _ _ (by omega) (by omega))

/-- The bound of rule R131: when n is a multiple of ISTEP and 1 ≤ M ≤ MMAX − 1, J + 1 = I + MMAX + 1 ≤ n. -/
theorem butterfly_index_le {n m mmax i : Nat} (h0 : 1 ≤ m) (hm : m + 1 ≤ mmax) (hd : 2 * mmax ∣ n)
    (hi : i ∈ rangeStep m n (2 * mmax)) : m ≤ i ∧ i + mmax + 1 ≤ n := by
  have hpos : 0 < mmax := by omega
  obtain ⟨h1, h2, h3⟩ := (mem_rangeStep (by omega)).1 hi
  obtain ⟨c, hc⟩ := Nat.dvd_of_mod_eq_zero h3
  obtain ⟨e, he⟩ := hd
  refine ⟨h1, ?_⟩
  have hlt : 2 * mmax * c < 2 * mmax * e := by omega
  have hce : c + 1 ≤ e := Nat.lt_of_mul_lt_mul_left hlt
  have h4 : 2 * mmax * (c + 1) ≤ 2 * mmax * e := Nat.mul_le_mul_left _ hce
  have h5 : 2 * mmax * (c + 1) = 2 * mmax * c + 2 * mmax := by ring
  omega

theorem columnBank_writesBelow {n stage m : Nat} (A : Arith F) (w : F × F) (h1 : 1 ≤ m) (hm : m + 1 ≤ 2 ^ stage)
    (hd : 2 * 2 ^ stage ∣ n) (d : Bank F) : Bank.WritesBelow n d (columnBank A n stage m w d) := by
  refine Bank.writesBelow_foldl _ _ (fun e i hi => ?_) d
  have h := butterfly_index_le h1 hm hd hi
  exact butterflyAt_writesBelow A stage _ w (by omega) h.2 e

/-- One stage writes words 1..n only. -/
theorem stageBank_writesBelow {n stage : Nat} (A : Arith F) (sgn : Sgn) (hd : 2 * 2 ^ stage ∣ n) (d : Bank F) :
    Bank.WritesBelow n d (stageBank A n sgn d stage) := by
  suffices h : ∀ (l : List Nat), (∀ m ∈ l, 1 ≤ m ∧ m + 1 ≤ 2 ^ stage) → ∀ st : Bank F × (F × F),
      Bank.WritesBelow n st.1 (l.foldl (columnStep A n sgn stage) st).1 by
    refine h _ (fun m hm => ?_) (d, (A.one, A.zero))
    have := (mem_rangeStep (by omega)).1 hm
    have hp : 0 < 2 ^ stage := Nat.two_pow_pos stage
    omega
  intro l
  induction l with
  | nil => exact fun _ st => .refl n _
  | cons m l ih =>
    intro hl st
    have hm := hl m List.mem_cons_self
    exact (columnBank_writesBelow A st.2 hm.1 hm.2 hd st.1).trans (ih (fun x hx => hl x (List.mem_cons_of_mem _ hx))
      (columnStep A n sgn stage st m))

/-- BFLY writes words 1..2N only. -/
theorem bflyBank_writesBelow (A : Arith F) (k : Nat) (sgn : Sgn) (d : Bank F) :
    Bank.WritesBelow (2 * 2 ^ k) d (bflyBank A k sgn d) := by
  refine Bank.writesBelow_foldl _ _ (fun e stage hs => ?_) d
  have hs := mem_rangeTo.1 hs
  exact stageBank_writesBelow A sgn (Nat.mul_dvd_mul_left 2 (Nat.pow_dvd_pow 2 hs.2)) e

/-- FFT writes words 1..2N only. -/
theorem fftBank_writesBelow (A : Arith F) (k : Nat) (sgn : Sgn) (d : Bank F) :
    Bank.WritesBelow (2 * 2 ^ k) d (fftBank A k sgn d) :=
  (bitrevBank_writesBelow k d).trans (bflyBank_writesBelow A k sgn _)

/-! ## Preparer, convolver, normalizer -/

/-- PREP writes words 1..2N only. -/
theorem prepBank_writesBelow (A : Arith F) {k len : Nat} (h : len ≤ 2 ^ k) (src : Bank Sample) (d : Bank F) :
    Bank.WritesBelow (2 * 2 ^ k) d (prepBank A k len src d) := by
  unfold prepBank
  refine (Bank.writesBelow_foldl _ _ (fun e p hp => ?_) d).trans (Bank.writesBelow_foldl _ _ (fun e p hp => ?_) _)
  · have hp := List.mem_range.1 hp
    exact (Bank.writesBelow_setData _ _ (by omega) (by omega)).trans (Bank.writesBelow_setData _ _ (by omega) (by omega))
  · obtain ⟨i, hi, rfl⟩ := List.mem_range'.1 hp
    exact (Bank.writesBelow_setData _ _ (by omega) (by omega)).trans (Bank.writesBelow_setData _ _ (by omega) (by omega))

/-- CMUL writes words 1..2N of its destination only. -/
theorem cmulBank_writesBelow (A : Arith F) (k : Nat) (o d : Bank F) : Bank.WritesBelow (2 * 2 ^ k) d (cmulBank A k o d) := by
  refine Bank.writesBelow_foldl _ _ (fun e p hp => ?_) d
  have hp := mem_rangeTo.1 hp
  exact (Bank.writesBelow_setData _ _ (by omega) (by omega)).trans (Bank.writesBelow_setData _ _ (by omega) (by omega))

/-- SCALE and NORM write words 1..2N only. -/
theorem divBank_writesBelow (A : Arith F) (k : Nat) (q : F) (d : Bank F) : Bank.WritesBelow (2 * 2 ^ k) d (divBank A k q d) := by
  refine Bank.writesBelow_foldl _ _ (fun e i hi => ?_) d
  have hi := mem_rangeTo.1 hi
  exact Bank.writesBelow_setData _ _ hi.1 hi.2

theorem scaleBank_writesBelow (A : Arith F) (k : Nat) (d : Bank F) : Bank.WritesBelow (2 * 2 ^ k) d (scaleBank A k d) :=
  divBank_writesBelow A k _ d

theorem normBank_writesBelow (A : Arith F) (k : Nat) (pk : F) (d : Bank F) : Bank.WritesBelow (2 * 2 ^ k) d (normBank A k pk d) := by
  unfold normBank
  split
  · exact .refl _ _
  · exact divBank_writesBelow A k pk d

/-- RENDER writes OMEM[0..len−1] only. -/
theorem renderBank_writesBelow (A : Arith F) (free : Nat → Sample) (len : Nat) (d : Bank F) (o : Bank Sample) :
    Bank.WritesBelow len o (renderBank A free len d o).1 := by
  suffices h : ∀ (l : List Nat), (∀ a ∈ l, a < len) → ∀ st : Bank Sample × Bool,
      Bank.WritesBelow len st.1 (l.foldl (renderAt A free d) st).1 by
    exact h _ (fun a ha => List.mem_range.1 ha) (o, false)
  intro l
  induction l with
  | nil => exact fun _ st => .refl _ _
  | cons a l ih =>
    intro hl st
    exact (Bank.writesBelow_write st.1 _ (hl a List.mem_cons_self)).trans (ih
      (fun x hx => hl x (List.mem_cons_of_mem _ hx)) (renderAt A free d st a))

/-- A reset during a command touches the first n words only. -/
theorem havocWords_writesBelow {α : Type} (free : Nat → α) (n : Nat) (d : Bank α) : Bank.WritesBelow n d (havocWords free n d) :=
  Bank.writesBelow_foldl _ _ (fun e _ ha => Bank.writesBelow_write e _ (List.mem_range.1 ha)) d

/-! ## Buffers of a state -/

/-- A buffer put back after work that keeps what unwritten words hold reads as the work left it. -/
theorem State.setBank_bank_of_writesBelow {n : Nat} (s : State) (b : Buf) {d : Bank RealWord}
    (h : Bank.WritesBelow n (s.bank b) d) : (s.setBank b d).bank b = d :=
  State.setBank_bank_same s b d h.unwritten

/-- OMEM put back after such work. -/
theorem State.setOutput_output_of_writesBelow {n : Nat} (s : State) {d : Bank Sample} (h : Bank.WritesBelow n s.output d) :
    (s.setOutput d).output = d :=
  State.setOutput_output_same s d h.unwritten

end Sys2Proof.Machine
end

