-- ==== Sys2Proof/Laws/PerInstr.lean ====
section
/-! SUPPORT. Facts about the commands as syntax, one lemma per constructor of `Instr`. The family `RowOf` says that the word
of a well-formed command satisfies `w AND mask = match` of the command's own row of the opcode map (spec rule R88). -/

namespace Sys2Proof.Laws

/-- The (match, mask) pair of a command's row, written from the table of rule R88. -/
def rowOf : Instr → Word × Word
  | .nop => (0x00000000#32, 0xFFFFFFFF#32)
  | .halt => (0x01000000#32, 0xFFFFFFFF#32)
  | .setld _ => (0x10000000#32, 0xFF000000#32)
  | .setli _ => (0x11000000#32, 0xFF000000#32)
  | .setn => (0x12000000#32, 0xFFFFFFFF#32)
  | .setk _ => (0x13000000#32, 0xFF000000#32)
  | .prep _ _ => (0x14000000#32, 0xFFFFFFFC#32)
  | .bitrev _ => (0x20000000#32, 0xFFFFFFFE#32)
  | .bfly _ _ => (0x21000000#32, 0xFFFFFFFC#32)
  | .fft _ _ => (0x22000000#32, 0xFFFFFFFC#32)
  | .cmul _ => (0x30000000#32, 0xFFFFFFFE#32)
  | .scale _ => (0x40000000#32, 0xFFFFFFFE#32)
  | .peak _ => (0x41000000#32, 0xFFFFFFFE#32)
  | .norm _ => (0x42000000#32, 0xFFFFFFFE#32)
  | .render _ => (0x43000000#32, 0xFFFFFFFE#32)

/-- The word of the command lies in the command's row. -/
def RowOf.Statement (i : Instr) : Prop := WellFormed i → encode i &&& (rowOf i).2 = (rowOf i).1

/-- An immediate that fits leaves the op field of `match` alone. -/
theorem imm_row (op : BitVec 8) (imm : Nat) (h : immFits imm = true) :
    ((op ++ 0#24) ||| BitVec.ofNat 32 imm) &&& 0xFF000000#32 = op ++ 0#24 := by
  have h' : imm < 2 ^ 24 := by simpa [immFits] using h
  have hm : (0xFF000000#32) = (BitVec.allOnes 8 ++ 0#24) := rfl
  rw [hm]
  apply BitVec.eq_of_getLsbD_eq
  intro j hj
  simp only [BitVec.getLsbD_and, BitVec.getLsbD_or, BitVec.getLsbD_append, BitVec.getLsbD_ofNat, BitVec.getLsbD_allOnes]
  by_cases hlt : j < 24
  · simp [hlt]
  · have : imm.testBit j = false := Nat.testBit_lt_two_pow (lt_of_lt_of_le h' (Nat.pow_le_pow_right (by omega) (by omega)))
    have hj8 : j - 24 < 8 := by omega
    simp [hlt, this, hj8]

theorem RowOf.nop : RowOf.Statement .nop := fun _ => rfl
theorem RowOf.halt : RowOf.Statement .halt := fun _ => rfl
theorem RowOf.setld (imm : Nat) : RowOf.Statement (.setld imm) := fun h => imm_row 0x10#8 imm h
theorem RowOf.setli (imm : Nat) : RowOf.Statement (.setli imm) := fun h => imm_row 0x11#8 imm h
theorem RowOf.setn : RowOf.Statement .setn := fun _ => rfl
theorem RowOf.setk (imm : Nat) : RowOf.Statement (.setk imm) := fun h => imm_row 0x13#8 imm h
theorem RowOf.prep (b : Buf) (src : Src) : RowOf.Statement (.prep b src) := fun _ => by cases b <;> cases src <;> rfl
theorem RowOf.bitrev (b : Buf) : RowOf.Statement (.bitrev b) := fun _ => by cases b <;> rfl
theorem RowOf.bfly (b : Buf) (sgn : Sgn) : RowOf.Statement (.bfly b sgn) := fun _ => by cases b <;> cases sgn <;> rfl
theorem RowOf.fft (b : Buf) (sgn : Sgn) : RowOf.Statement (.fft b sgn) := fun _ => by cases b <;> cases sgn <;> rfl
theorem RowOf.cmul (b : Buf) : RowOf.Statement (.cmul b) := fun _ => by cases b <;> rfl
theorem RowOf.scale (b : Buf) : RowOf.Statement (.scale b) := fun _ => by cases b <;> rfl
theorem RowOf.peak (b : Buf) : RowOf.Statement (.peak b) := fun _ => by cases b <;> rfl
theorem RowOf.norm (b : Buf) : RowOf.Statement (.norm b) := fun _ => by cases b <;> rfl
theorem RowOf.render (b : Buf) : RowOf.Statement (.render b) := fun _ => by cases b <;> rfl

end Sys2Proof.Laws
end

