-- ==== Sys2Proof/Laws/Run.lean ====
section
/-! SUPPORT. How a run of several steps unfolds, for statements about streams of host moves (spec rules R268, R269). -/

namespace Sys2Proof.Machine

/-- One more step of a run is the step followed by the rest of the run. -/
theorem run_succ (M : Host.Core) (n : Nat) (s : M.State) :
    M.run (n + 1) s = match M.step s with
      | .next t => M.run n t
      | .fault r => .fault r
      | .refused r => .refused r := rfl

/-- A run whose first step answers a next state goes on from there. -/
theorem run_succ_of_next {n : Nat} {s t : State} (h : step s = .next t) :
    Host.Core.run Sys2Proof.core (n + 1) s = Host.Core.run Sys2Proof.core n t := by
  rw [run_succ Sys2Proof.core n s, show Sys2Proof.core.step s = .next t from h]

end Sys2Proof.Machine
end

