-- ==== Sys2Proof/Tests/Slice0.lean ====
section
/-! SUPPORT. Tests of the model. Expected results are the spec's own: the words of 30_encoding.md, the vectors V-* of
95_test_vectors.md, or a rule's own examples; each test names its source. Then one witness per statement that has
hypotheses. -/

namespace Sys2Proof.Tests

open Sys2Proof Sys2Proof.Machine

/-! ## Helpers -/

/-- A memory whose first words are the given ones. -/
def words {α : Type} (l : List α) : Mem α := (List.range l.length).zip l

/-- Part of the state after a step, if there is one. -/
def after {β : Type} (f : State → β) (o : Host.Outcome State Fault Refusal) : Option β :=
  match o with
  | .next t => some (f t)
  | .fault _ => none
  | .refused _ => none

/-- Part of the state after the step that runs the command word `w`. -/
def ran {β : Type} (w : Nat) (s : State) (f : State → β) : Option β := after f (step (s.withFetchWord 32 w))

/-- The fault record with the counter: FAULT, FCODE, FINFO, FPC, CMDCNT. -/
def record (s : State) : Bool × BitVec 4 × Word × Word × Word := (s.fault, s.fcode, s.finfo, s.fpc, s.cmdcnt)

/-! ## Well-formedness: rule R93, an immediate "must be below 2^24" -/

theorem test_setld_wellFormed : WellFormed (.setld 16777215) ∧ ¬WellFormed (.setld 16777216) := by decide
theorem test_setli_wellFormed : WellFormed (.setli 16777215) ∧ ¬WellFormed (.setli 16777216) := by decide
theorem test_setk_wellFormed : WellFormed (.setk 16777215) ∧ ¬WellFormed (.setk 16777216) := by decide

/-! ## Decoding: words written from the patterns of rule R88 (and V-ENC-1) -/

theorem test_decode_nop : decode 0b00000000_00000000_00000000_00000000#32 = .ok (.nop) := by decide
theorem test_decode_halt : decode 0b00000001_00000000_00000000_00000000#32 = .ok (.halt) := by decide
theorem test_decode_setld : decode 0b00010000_11111111_11111111_11111111#32 = .ok (.setld 16777215) := by decide
theorem test_decode_setli : decode 0b00010001_00000000_00010010_00110100#32 = .ok (.setli 4660) := by decide
theorem test_decode_setn : decode 0b00010010_00000000_00000000_00000000#32 = .ok (.setn) := by decide
theorem test_decode_setk : decode 0b00010011_00000000_00000000_00011001#32 = .ok (.setk 25) := by decide
theorem test_decode_prep : decode 0b00010100_00000000_00000000_00000010#32 = .ok (.prep .A .H) := by decide
theorem test_decode_prep_x : decode 0b00010100_00000000_00000000_00000001#32 = .ok (.prep .B .X) := by decide
theorem test_decode_bitrev : decode 0b00100000_00000000_00000000_00000001#32 = .ok (.bitrev .B) := by decide
theorem test_decode_bfly : decode 0b00100001_00000000_00000000_00000010#32 = .ok (.bfly .A .minus) := by decide
theorem test_decode_fft : decode 0b00100010_00000000_00000000_00000001#32 = .ok (.fft .B .plus) := by decide
theorem test_decode_cmul : decode 0b00110000_00000000_00000000_00000001#32 = .ok (.cmul .B) := by decide
theorem test_decode_scale : decode 0b01000000_00000000_00000000_00000000#32 = .ok (.scale .A) := by decide
theorem test_decode_peak : decode 0b01000001_00000000_00000000_00000001#32 = .ok (.peak .B) := by decide
theorem test_decode_norm : decode 0b01000010_00000000_00000000_00000000#32 = .ok (.norm .A) := by decide
theorem test_decode_render : decode 0b01000011_00000000_00000000_00000001#32 = .ok (.render .B) := by decide

/-- The illegal words of V-ENC-2, and which of the two cases of rule R90 each is. -/
theorem test_decode_illegal :
    (([0x00000001#32, 0x01000001#32, 0x12000001#32, 0x14000004#32, 0x20000002#32, 0x21000004#32, 0x22800000#32, 0x30000002#32,
       0x40000010#32, 0x43000100#32].all fun w => decide (decode w = .error (.nonzeroField (opField w)))) &&
     [0x02000000#32, 0x0F000000#32, 0x15000000#32, 0x23000000#32, 0x31000000#32, 0x44000000#32, 0x80000000#32, 0xFFFFFFFF#32].all
       fun w => decide (decode w = .error (.unknownOp (opField w)))) = true := by decide

/-! ## Assembler: rules R93 to R95 -/

/-- A comment, blanks, a hexadecimal immediate and two lines. -/
theorem test_assemble_lines :
    assemble (" SETLD 0x10 ; dry\n\nFFT B, -1".toList) = some [0x10000010#32, 0x22000003#32] := by decide +kernel
/-- An immediate of 2^24 does not fit, and lower case is no mnemonic. -/
theorem test_assemble_rejects : assemble "SETLI 16777216".toList = none ∧ assemble "nop".toList = none := by decide +kernel
/-- V-ENC-1. -/
theorem test_disassemble : disassemble (.setli 4660) = "SETLI 4660".toList ∧ disassemble (.bfly .B .minus) = "BFLY B, -1".toList := by
  decide +kernel

/-! ## Arithmetic units -/

/-- V-CM-1 and V-CM-3. -/
theorem test_cm :
    cm (binary64 0) [] 0x3FF0000000000000#64 0x4000000000000000#64 0x4008000000000000#64 0x4010000000000000#64 = (0xC014000000000000#64, 0x4024000000000000#64) ∧
    cm (binary64 0) [] 0x3FB999999999999A#64 0x3FC999999999999A#64 0x3FD3333333333333#64 0x3FD999999999999A#64 =
      (0xBFA999999999999C#64, 0x3FB999999999999A#64) := by decide +kernel
/-- V-BF-2. -/
theorem test_bf :
    bf (binary64 0) [] (0x3FF0000000000000#64, 0#64) (0#64, 0x3FF0000000000000#64) (0#64, 0x3FF0000000000000#64) = ((0#64, 0#64), (0x4000000000000000#64, 0#64)) := by decide +kernel
/-- V-REC-3m: the first turn of stage 3 with sgn = −1. -/
theorem test_rec :
    twiddleStep (binary64 0) [] (0x3FF0000000000000#64, 0#64) (seeds (binary64 0) .minus 3) = (0x3FE6A09E667F3BCC#64, 0xBFE6A09E667F3BCD#64) := by
  decide +kernel
/-- V-REV-1. -/
theorem test_rev : (List.range 8).map (rev 3) = [0, 4, 2, 6, 1, 5, 3, 7] ∧ rev 0 0 = 0 := by decide
/-- Rule R103's examples: −1.5 gives −1, −0 gives 0, an infinity nothing. -/
theorem test_f2i :
    f64ToInt 0xBFF8000000000000#64 = some (-1) ∧ f64ToInt 0x8000000000000000#64 = some 0 ∧ f64ToInt 0x7FF0000000000000#64 = none := by decide +kernel
/-- Rule R100: the least subnormal halved is a tie and goes to zero (V-SCALE-2); the largest finite value doubled is an infinity. -/
theorem test_rounding :
    f64Div 0#64 0x0000000000000001#64 0x4000000000000000#64 = 0#64 ∧ f64Add 0#64 0x7FEFFFFFFFFFFFFF#64 0x7FEFFFFFFFFFFFFF#64 = 0x7FF0000000000000#64 := by
  decide +kernel

/-! ## System commands -/

/-- V-SYS-4: CMDCNT wraps. -/
theorem test_nop : ran 0x00000000 { State.reset with cmdcnt := 0xFFFFFFFF#32 } State.cmdcnt = some 0#32 := by decide
/-- Rule R201. -/
theorem test_halt : ran 0x01000000 State.reset (fun t => (t.halt, t.cmdcnt)) = some (true, 1#32) := by decide
/-- V-SYS-2: an illegal word after HALT is ignored. -/
theorem test_halted_ignores : ran 0xFFFFFFFF { State.reset with halt := true } record = some (record State.reset) := by decide
/-- V-SYS-3: the illegal word at stream index 2. -/
theorem test_illegal_word :
    ran 0x02000000 { State.reset with cmdcnt := 2#32 } record = some (true, 1#4, 0x02000000#32, 2#32, 2#32) := by decide

/-! ## Signal preparer -/

/-- V-SET-1. -/
theorem test_setld : ran 0x10000010 State.reset (fun t => (t.ld, t.cmdcnt)) = some (16#26, 1#32) := by decide
theorem test_setld_traps : ran 0x10000011 State.reset record = some (true, 2#4, 17#32, 0#32, 0#32) := by decide
theorem test_setli : ran 0x11000002 State.reset (fun t => (t.li, t.cmdcnt)) = some (2#26, 1#32) := by decide
theorem test_setli_traps : ran 0x11001000 State.reset record = some (true, 2#4, 4096#32, 0#32, 0#32) := by decide
theorem test_setk : ran 0x13000004 State.reset (fun t => (t.k, t.cmdcnt)) = some (4#5, 1#32) := by decide
theorem test_setk_traps : ran 0x13000005 State.reset record = some (true, 2#4, 5#32, 0#32, 0#32) := by decide
/-- V-SETN-1: L = 5 gives N = 8. -/
theorem test_setn : ran 0x12000000 { State.reset with ld := 3#26, li := 3#26 } (fun t => (t.k, t.cmdcnt)) = some (3#5, 1#32) := by
  decide
/-- V-SYS-5. -/
theorem test_setn_traps :
    ran 0x12000000 { State.reset with cmdcnt := 41#32, ld := 9#26, li := 9#26 } record = some (true, 2#4, 17#32, 41#32, 41#32) := by
  decide
/-- V-PREP-2. -/
theorem test_prep :
    ran 0x14000003 { State.reset with k := 2#5, li := 4#26, hmem := words [0x8000#16, 0x7FFF#16, 0x0000#16, 0xFFFF#16] } State.bufb =
      some (words [0xBFF0000000000000#64, 0#64, 0x3FEFFFC000000000#64, 0#64, 0#64, 0#64, 0xBF00000000000000#64, 0#64]) := by
  decide +kernel
/-- V-PREP-4: words above the active region are kept. -/
theorem test_prep_keeps :
    ran 0x14000000 { State.reset with k := 1#5, ld := 2#26, xmem := words [5#16, 6#16], bufa := words (List.replicate 8 0x3FF0000000000000#64) }
        State.bufa =
      some (words ([0x3F24000000000000#64, 0#64, 0x3F28000000000000#64, 0#64] ++ List.replicate 4 0x3FF0000000000000#64)) := by decide +kernel

/-! ## FFT engine -/

/-- V-BR-1. -/
theorem test_bitrev :
    ran 0x20000000 { State.reset with
      k := 3#5
      bufa := words [0#64, 10#64, 1#64, 11#64, 2#64, 12#64, 3#64, 13#64, 4#64, 14#64, 5#64, 15#64, 6#64, 16#64, 7#64, 17#64] }
        State.bufa =
      some (words [0#64, 10#64, 4#64, 14#64, 2#64, 12#64, 6#64, 16#64, 1#64, 11#64, 5#64, 15#64, 3#64, 13#64, 7#64, 17#64]) := by decide
/-- V-BFLY-3. -/
theorem test_bfly :
    ran 0x21000000 { State.reset with k := 2#5, bufa := words [0x3FF0000000000000#64, 0x0000000000000000#64, 0x4000000000000000#64, 0x0000000000000000#64, 0x4008000000000000#64, 0x0000000000000000#64, 0x4010000000000000#64, 0x0000000000000000#64] } State.bufa =
      some (words [0x4024000000000000#64, 0x0000000000000000#64, 0xBFF0000000000000#64, 0xBFF0000000000000#64, 0xC010000000000000#64, 0x0000000000000000#64, 0xBFF0000000000000#64, 0x3FF0000000000000#64]) := by decide +kernel
/-- V-FFT-4, sgn = −1. -/
theorem test_fft :
    ran 0x22000002 { State.reset with k := 2#5, bufa := words [0x3FF0000000000000#64, 0x0000000000000000#64, 0x4000000000000000#64, 0x0000000000000000#64, 0x4008000000000000#64, 0x0000000000000000#64, 0x4010000000000000#64, 0x0000000000000000#64] } (fun t => (t.bufa, t.cmdcnt)) =
      some (words [0x4024000000000000#64, 0x0000000000000000#64, 0xC000000000000000#64, 0x4000000000000000#64, 0xC000000000000000#64, 0x0000000000000000#64, 0xC000000000000000#64, 0xC000000000000000#64], 1#32) := by decide +kernel
/-- V-FFT-8I: the residue of the rounded recurrence. -/
theorem test_fft_residue :
    ran 0x22000000 { State.reset with k := 3#5, bufa := words ([0x0000000000000000#64, 0x0000000000000000#64, 0x3FF0000000000000#64, 0x0000000000000000#64] ++ List.replicate 12 0#64) }
        (fun t => ((t.bank .A).position 1, (t.bank .A).position 2)) =
      some ((0x3FE6A09E667F3BCC#64, 0x3FE6A09E667F3BCD#64), (0xBCB0000000000000#64, 0x3FF0000000000000#64)) := by decide +kernel

/-! ## Convolver -/

/-- V-CMUL-1: the other buffer is unchanged. -/
theorem test_cmul :
    ran 0x30000000 { State.reset with bufa := words [0x3FF0000000000000#64, 0x4000000000000000#64], bufb := words [0x4008000000000000#64, 0x4010000000000000#64] } (fun t => (t.bufa, t.bufb)) =
      some (words [0xC014000000000000#64, 0x4024000000000000#64], words [0x4008000000000000#64, 0x4010000000000000#64]) := by decide +kernel
/-- V-CMUL-4: signed zeros, into buffer A. -/
theorem test_cmul_zero :
    ran 0x30000000 { State.reset with k := 1#5, bufa := words [0x3FF8000000000000#64, 0xC000000000000000#64, 0xC008000000000000#64, 0x4010000000000000#64], bufb := words (List.replicate 4 0#64) } State.bufa =
      some (words [0#64, 0#64, 0x8000000000000000#64, 0#64]) := by decide +kernel

/-! ## Normalizer and renderer -/

/-- V-SCALE-1. -/
theorem test_scale :
    ran 0x40000000 { State.reset with k := 2#5, bufa := words [0x4010000000000000#64, 0x0000000000000000#64, 0x4028000000000000#64, 0x0000000000000000#64, 0x4034000000000000#64, 0x0000000000000000#64, 0x4028000000000000#64, 0x0000000000000000#64] } State.bufa = some (words [0x3FF0000000000000#64, 0x0000000000000000#64, 0x4008000000000000#64, 0x0000000000000000#64, 0x4014000000000000#64, 0x0000000000000000#64, 0x4008000000000000#64, 0x0000000000000000#64]) := by
  decide +kernel
/-- V-PEAK-1. -/
theorem test_peak :
    ran 0x41000000 { State.reset with k := 2#5, bufa := words [0x3FD0000000000000#64, 0x4022000000000000#64, 0xBFE8000000000000#64, 0x4022000000000000#64, 0x3FE0000000000000#64, 0x4022000000000000#64, 0x0000000000000000#64, 0x4022000000000000#64] } (fun t => (t.peak, t.pkz)) =
      some (0x3FE8000000000000#64, false) := by decide +kernel
/-- V-PEAK-5: never −0.0. -/
theorem test_peak_zero :
    ran 0x41000000 { State.reset with k := 1#5, peak := 0x3FE8000000000000#64, bufa := words [0x8000000000000000#64, 0x4014000000000000#64, 0x0000000000000000#64, 0x4014000000000000#64] } (fun t => (t.peak, t.pkz)) =
      some (0#64, true) := by decide +kernel
/-- V-NORM-1. -/
theorem test_norm :
    ran 0x42000000 { State.reset with k := 1#5, peak := 0x3FE8000000000000#64, bufa := words [0x3FD0000000000000#64, 0x3FE0000000000000#64, 0xBFE8000000000000#64, 0x0000000000000000#64] } State.bufa =
      some (words [0x3FD5555555555555#64, 0x3FE5555555555555#64, 0xBFF0000000000000#64, 0#64]) := by decide +kernel
/-- V-NORM-2: the zero-peak guard. -/
theorem test_norm_zero :
    ran 0x42000000 { State.reset with k := 1#5, bufa := words [0x3FD0000000000000#64, 0x3FE0000000000000#64, 0xBFE8000000000000#64, 0x0000000000000000#64] } (fun t => (t.bufa, t.cmdcnt)) =
      some (words [0x3FD0000000000000#64, 0x3FE0000000000000#64, 0xBFE8000000000000#64, 0x0000000000000000#64], 1#32) := by decide +kernel
/-- V-REND-1: +1.0 wraps and sets OVF. -/
theorem test_render :
    ran 0x43000000 { State.reset with
      k := 2#5, ld := 3#26, li := 2#26
      bufa := words [0x3FC999999999999A#64, 0x405EC00000000000#64, 0x3FE3333333333333#64, 0x405EC00000000000#64, 0x3FF0000000000000#64, 0x405EC00000000000#64, 0x3FE3333333333333#64, 0x405EC00000000000#64]
      omem := words (List.replicate 6 0x5A5A#16) } (fun t => (t.omem, t.ovf, t.olen)) =
      some (words [0x1999#16, 0x4CCC#16, 0x8000#16, 0x4CCC#16, 0x5A5A#16, 0x5A5A#16], true, 4#26) := by decide +kernel
/-- V-REND-6. -/
theorem test_render_traps :
    ran 0x43000000 { State.reset with k := 1#5, ld := 2#26, li := 2#26 } record = some (true, 4#4, 3#32, 0#32, 0#32) := by decide

/-! ## Host and reset -/

/-- V-SYS-6: reset after a fault keeps the memories. -/
theorem test_reset_keeps_memory :
    after (fun t => (t.fault, t.cmdcnt, t.ld, t.xmem)) (step { State.reset with
      fault := true, fcode := 1#4, finfo := 0x02000000#32, fpc := 2#32
      cmdcnt := 2#32, ld := 5#26, li := 3#26, xmem := [(0, 0x1234#16)], pending := [.reset] }) =
      some (false, 0#32, 0#26, [(0, 0x1234#16)]) := by decide
/-- Rules R52, R59: the host's index 2 of BUFA is the engine's word 3. -/
theorem test_host_write :
    after (fun t => (t.bank .A).data 3) (step { State.reset with pending := [.write 3 2 (.w64 7#64)] }) = some 7#64 := by decide
/-- Rule R60 and R24: STATUS with FAULT and PKZ set is 10. -/
theorem test_status :
    after State.reply (step { State.reset with fault := true, pkz := true, pending := [.read 0 0] }) = some (some (.w32 10#32)) := by
  decide
/-- Rule R62: a write to OMEM is refused. -/
theorem test_omem_refused :
    after State.omem (step { State.reset with pending := [.write 5 0 (.w16 1#16)] }) = some [] := by decide
/-- Rule R268, case (c): accesses and a reset left over do not keep the run from ending; a word before the reset does. -/
theorem test_run_end :
    runEnd { State.reset with pending := [.read 0 0, .write 1 0 (.w16 1#16), .reset, .command 0#32] } = some .exhausted ∧
    runEnd { State.reset with pending := [.read 0 0, .command 0#32] } = none ∧
    runEnd { State.reset with pending := [.resetDuring 0#32] } = none := by decide
/-- Rule R267: the premises hold right after reset, and of a loaded state. -/
theorem test_launch_premises :
    CleanEntry State.reset ∧ ResetEntry State.reset ∧ SamplesLoaded { State.reset with xmem := words [5#16] } [5#16] [] ∧
      BufferLoaded { State.reset with bufb := words [3#64, 4#64] } .B 0 (fun i => if i = 1 then 3#64 else 4#64) := by
  refine ⟨rfl, rfl, ⟨fun k hk => ?_, fun k hk => by simp at hk⟩, fun i h1 h2 => ?_⟩
  · obtain rfl : k = 0 := by simpa using hk
    rfl
  · obtain rfl | rfl : i = 1 ∨ i = 2 := by omega
    all_goals rfl

/-! ## Witnesses: for each statement with hypotheses, a state and operands that meet all of them together -/

/-- A run in the middle: K = 1, both lengths and all memories in use, a command waiting. -/
def busy : State := { State.reset with
  cmdcnt := 5#32, ld := 2#26, li := 1#26, k := 1#5
  xmem := words [5#16, 6#16], hmem := words [7#16]
  bufa := words [0x3FE0000000000000#64, 0x0000000000000000#64, 0xBFD0000000000000#64, 0x0000000000000000#64], bufb := words [0x0000000000000000#64, 0x8000000000000000#64, 0x0000000000000000#64, 0x0000000000000000#64]
  omem := words [1#16], pending := [.command 0x41000000#32] }

/-- The same machine stopped by HALT, with two more moves waiting. -/
def halted : State := { busy with halt := true, pending := [.command 0x00000000#32, .read 0 4] }

/-- The same machine stopped by a fault. -/
def faulted : State := { busy.raise .ecap 17 with pending := [.command 0xFFFFFFFF#32, .read 5 0] }

theorem test_witness_DecodeUndoesEncode : WellFormed (.setk 16777215) ∧ WellFormed (.prep .B .H) := by decide
theorem test_witness_EncodeUndoesDecode : decode 0x22000003#32 = .ok (.fft .B .minus) := by decide
theorem test_witness_DecoderFollowsTheOpcodeMap :
    (∃ r ∈ opcodeRows, 0x22000003#32 &&& r.mask = r.pat) ∧ (∀ r ∈ opcodeRows, 0x22800000#32 &&& r.mask ≠ r.pat) ∧
    ∃ r ∈ opcodeRows, ∃ r' ∈ opcodeRows, 0x22000003#32 &&& r.mask = r.pat ∧ 0x22000003#32 &&& r'.mask = r'.pat := by decide
theorem test_witness_IllegalWordRaisesEill :
    (∀ r ∈ opcodeRows, 0x22800000#32 &&& r.mask ≠ r.pat) ∧ (∀ r ∈ opcodeRows, 0x02000000#32 &&& r.mask ≠ r.pat) ∧
    busy.halt = false ∧ busy.fault = false := by decide
theorem test_witness_AssemblerReadsBackEveryLegalWord : decode 0x10FFFFFF#32 = .ok (.setld 16777215) := by decide
theorem test_witness_StepRunsDecodedCommand :
    busy.pending = [.command 0x41000000#32] ∧ busy.halt = false ∧ busy.fault = false ∧ decode 0x41000000#32 = .ok (.peak .A) := by
  decide
theorem test_witness_StoppedEngineIgnoresCommands :
    (halted.halt = true ∨ halted.fault = true) ∧ (faulted.halt = true ∨ faulted.fault = true) ∧
    (∃ t, applyMove (.write 1 0 (.w16 3#16)) halted = .next t) ∧ ∃ t, applyMove .reset faulted = .next t := by
  exact ⟨by decide, by decide, ⟨_, rfl⟩, _, rfl⟩
theorem test_witness_IdleEngineStaysPut : State.reset.pending = [] := rfl

/-- The invariant holds of `busy`. -/
theorem busy_inv : Inv busy := by constructor <;> first | decide | (unfold Mem.within; decide)

theorem test_witness_StepKeepsInvariant : Inv busy ∧ ∃ t, step busy = .next t := ⟨busy_inv, _, rfl⟩

/-- A reset during BFLY A with K = 1: words 0 to 3 may change, 4 is the first that may not; a RENDER with L = 2. -/
theorem test_witness_ResetDuringACommandTouchesOnlyItsFootprint :
    (∀ i n, busy.stopped = false → decode 0x21000000#32 = .ok i → footprint i busy = .buffer .A n → n ≤ 4) ∧
    ∀ i n, busy.stopped = false → decode 0x43000000#32 = .ok i → footprint i busy = .outputs n → n ≤ 2 := by
  refine ⟨fun i n _ h g => ?_, fun i n _ h g => ?_⟩
  · obtain rfl : i = .bfly .A .plus := by have : decode 0x21000000#32 = .ok (.bfly .A .plus) := by decide
                                          simpa using (this.symm.trans h).symm
    cases g; decide
  · obtain rfl : i = .render .A := by have : decode 0x43000000#32 = .ok (.render .A) := by decide
                                      simpa using (this.symm.trans h).symm
    cases g; decide

/-- The last index of each space (KMAX = 4). -/
theorem test_witness_HostWriteThenRead :
    ((1 = 1 ∨ 1 = 2) ∧ 15 < busy.nmax ∧ ∃ x, HostWord.w16 9#16 = .w16 x) ∧ ((2 = 1 ∨ 2 = 2) ∧ 0 < busy.nmax ∧ ∃ x, HostWord.w16 9#16 = .w16 x) ∧
    ((3 = 3 ∨ 3 = 4) ∧ 31 < 2 * busy.nmax ∧ ∃ x, HostWord.w64 9#64 = .w64 x) ∧
    ((4 = 3 ∨ 4 = 4) ∧ 0 < 2 * busy.nmax ∧ ∃ x, HostWord.w64 9#64 = .w64 x) :=
  ⟨⟨by decide, by decide, _, rfl⟩, ⟨by decide, by decide, _, rfl⟩, ⟨by decide, by decide, _, rfl⟩, by decide, by decide, _, rfl⟩
/-- The first index outside each space. -/
theorem test_witness_RefusedAccessesChangeNothing :
    (0 = 0 ∨ 5 ≤ 0) ∧ (5 = 0 ∨ 5 ≤ 5) ∧ busy.nmax ≤ 16 ∧ 2 * busy.nmax ≤ 32 ∧ 9 < 10 ∧ 5 < 6 := by decide
theorem test_witness_EndedRunIgnoresTheRest :
    runEnd halted = some .halted ∧ runEnd faulted = some .faulted ∧ QuietHost halted.pending ∧ QuietHost faulted.pending := by
  refine ⟨by decide, by decide, ?_, ?_⟩ <;> intro m hm
  · obtain rfl | rfl : m = .command 0x00000000#32 ∨ m = .read 0 4 := by simpa [halted] using hm
    · exact .inl ⟨_, rfl⟩
    · exact .inr ⟨_, _, rfl⟩
  · obtain rfl | rfl : m = .command 0xFFFFFFFF#32 ∨ m = .read 5 0 := by simpa [faulted] using hm
    · exact .inl ⟨_, rfl⟩
    · exact .inr ⟨_, _, rfl⟩
/-- Both cases: RENDER fits busy, SETK 5 exceeds KMAX. -/
theorem test_witness_CommandsFaultExactlyByTheTable :
    faultOf (.render .A) busy = none ∧ faultOf (.setk 5) busy = some (.ecap, 5) := by decide
/-- BFLY A with K = 1 may write words 0 to 3, so the first word outside is 4; for RENDER it is sample 2. -/
theorem test_witness_CommandsWriteOnlyTheirFootprint :
    (∃ t, exec (.bfly .A .plus) busy = .next t) ∧ footprint (.bfly .A .plus) busy = .buffer .A 4 ∧
    footprint (.render .A) busy = .outputs 2 := ⟨⟨_, rfl⟩, by decide, by decide⟩
theorem test_witness_OnlyTheNamedCommandsWriteARegister :
    (∃ t, exec .halt busy = .next t ∧ t.halt ≠ busy.halt) ∧ (∃ t, exec (.setk 2) busy = .next t ∧ t.k ≠ busy.k) ∧
    (∃ t, exec (.setk 5) busy = .next t ∧ t.fault ≠ busy.fault) ∧ (∃ t, exec (.setld 1) busy = .next t ∧ t.ld ≠ busy.ld) ∧
    (∃ t, exec (.setli 2) busy = .next t ∧ t.li ≠ busy.li) ∧
    (∃ t, exec (.render .A) { busy with bufa := words [0x3FF0000000000000#64, 0x0000000000000000#64, 0x0000000000000000#64, 0x0000000000000000#64] } = .next t ∧ t.ovf ≠ busy.ovf ∧ t.olen ≠ busy.olen) ∧
    (∃ t, exec (.peak .B) busy = .next t ∧ t.pkz ≠ busy.pkz) ∧ ∃ t, exec (.peak .A) busy = .next t ∧ t.peak ≠ busy.peak :=
  ⟨⟨_, rfl, by decide⟩, ⟨_, rfl, by decide⟩, ⟨_, rfl, by decide⟩, ⟨_, rfl, by decide⟩, ⟨_, rfl, by decide⟩,
    ⟨_, rfl, by decide +kernel, by decide +kernel⟩, ⟨_, rfl, by decide +kernel⟩, _, rfl, by decide +kernel⟩
theorem test_witness_OnlyTheHostWritesSamples :
    (∃ t, step { busy with pending := [.write 1 0 (.w16 9#16)] } = .next t ∧ t.xmem ≠ busy.xmem) ∧
    ∃ t, step { busy with pending := [.write 2 15 (.w16 9#16)] } = .next t ∧ t.hmem ≠ busy.hmem :=
  ⟨⟨_, rfl, by decide⟩, _, rfl, by decide⟩

/-- Both clauses where they meet: NMAX = 16. -/
theorem test_witness_SetldSetsTheDryLength : 16 ≤ 2 ^ busy.kmax.val ∧ 2 ^ busy.kmax.val < 17 := by decide
theorem test_witness_SetliSetsTheImpulseLength : 0 ≤ 2 ^ busy.kmax.val ∧ 16 ≤ 2 ^ busy.kmax.val ∧ 2 ^ busy.kmax.val < 17 := by decide
theorem test_witness_SetkSetsTheTransformLength : 4 ≤ busy.kmax.val ∧ busy.kmax.val < 5 := by decide
/-- Rows of V-SETN-1: 0 and 5, 5 and 0, L = 1, L = 16, L = 17. -/
theorem test_witness_SetnChoosesTheLeastLength :
    let s (ld li : Nat) : State := { State.reset with ld := BitVec.ofNat 26 ld, li := BitVec.ofNat 26 li }
    (s 0 5).ld.toNat = 0 ∧ (s 5 0).li.toNat = 0 ∧
    (1 ≤ (s 1 1).ld.toNat ∧ 1 ≤ (s 1 1).li.toNat ∧ (s 1 1).ld.toNat + (s 1 1).li.toNat - 1 ≤ 2 ^ (s 1 1).kmax.val) ∧
    (1 ≤ (s 8 9).ld.toNat ∧ 1 ≤ (s 8 9).li.toNat ∧ (s 8 9).ld.toNat + (s 8 9).li.toNat - 1 ≤ 2 ^ (s 8 9).kmax.val) ∧
    (1 ≤ (s 9 9).ld.toNat ∧ 1 ≤ (s 9 9).li.toNat ∧ 2 ^ (s 9 9).kmax.val < (s 9 9).ld.toNat + (s 9 9).li.toNat - 1) := by decide
/-- LD = N, LI below N (so there is padding), and LD = N + 1. -/
theorem test_witness_PrepConvertsAndPads :
    busy.srcLen .X ≤ busy.txLen ∧ 1 < busy.srcLen .X ∧ busy.srcLen .H ≤ busy.txLen ∧ (busy.srcLen .H ≤ 1 ∧ 1 < busy.txLen) ∧
    busy.txLen < { busy with ld := 3#26 }.srcLen .X := by decide
theorem test_witness_RevReadsBitsBackwards : 7 < 2 ^ 3 ∧ 0 < 2 ^ 0 := by decide
theorem test_witness_RevIsAnInvolution : 7 < 2 ^ 3 ∧ 0 < 2 ^ 0 := by decide
theorem test_witness_BitrevPermutesPositions : 0 < busy.txLen ∧ 1 < busy.txLen := by decide
/-- K = 3: the last block and column of stage 2. -/
theorem test_witness_BflyRunsTheStages :
    let s : State := { busy with k := 3#5 }
    7 < s.txLen ∧ 1 ≤ 2 ∧ 2 ≤ s.kNat ∧ 1 < 2 ^ (s.kNat - 2) ∧ 1 < 2 ^ (2 - 1) := by decide
/-- Two blocks of stage 1, and two columns of one block of stage 2. -/
theorem test_witness_ButterfliesOfAStageCommute :
    (1 ≤ 1 ∧ 0 < 2 ^ (1 - 1) ∧ (0, 0) ≠ (1, 0)) ∧ 1 ≤ 2 ∧ 0 < 2 ^ (2 - 1) ∧ 1 < 2 ^ (2 - 1) ∧ (3, 0) ≠ (3, 1) := by decide
theorem test_witness_CmulMultipliesEntrywise : 1 ≤ 1 ∧ 1 ≤ busy.txLen ∧ 2 ≤ busy.txLen := by decide
theorem test_witness_ScaleDividesByN : 1 ≤ 1 ∧ 4 ≤ 2 * busy.txLen := by decide
theorem test_witness_PeakFindsTheLargestRealPart : 1 ≤ 1 ∧ 1 ≤ busy.txLen ∧ 2 ≤ busy.txLen := by decide
/-- Both clauses: PEAK = −0.0 is zero, the least subnormal is not. -/
theorem test_witness_NormDividesByPeak :
    f64IsZero { busy with peak := 0x8000000000000000#64 }.peak = true ∧ f64IsZero { busy with peak := 1#64 }.peak = false ∧
    1 ≤ 1 ∧ 4 ≤ 2 * busy.txLen := by decide
/-- No length; L = N + 1; L = N. -/
theorem test_witness_RenderEncodesTheSamples :
    { busy with ld := 0#26 }.ld.toNat = 0 ∧ { busy with li := 0#26 }.li.toNat = 0 ∧
    (1 ≤ busy.ld.toNat ∧ 1 ≤ { busy with li := 2#26 }.li.toNat ∧ busy.txLen < busy.ld.toNat + { busy with li := 2#26 }.li.toNat - 1) ∧
    1 ≤ busy.ld.toNat ∧ 1 ≤ busy.li.toNat ∧ busy.convLen ≤ busy.txLen ∧ busy.kNat ≤ busy.kmax.val ∧ 1 < busy.convLen ∧ busy.convLen ≤ 2 ∧
    f64ToInt ((binary64 busy.draws).fmul [1] ((busy.bank .A).position 1).1 0x40E0000000000000#64) = some (-8192) := by decide +kernel
/-- NORM answers a next state. -/
theorem norm_next (b : Buf) (t : State) : ∃ u, exec (.norm b) t = .next u := by
  by_cases h : f64IsZero t.peak = true <;> simp [exec, execNorm, h]

theorem test_witness_NoClipAfterPeakAndNorm :
    (∀ e, 1 ≤ e → e ≤ busy.txLen → f64IsFinite ((busy.bank .A).data (2 * e - 1)) = true) ∧
    ∃ t u, exec (.peak .A) busy = .next t ∧ exec (.norm .A) t = .next u ∧ f64IsZero t.peak = false := by
  refine ⟨fun e h1 h2 => ?_, _, (norm_next _ _).imp fun u hu => ⟨rfl, hu, by decide +kernel⟩⟩
  have : e ≤ 2 := h2
  obtain rfl | rfl : e = 1 ∨ e = 2 := by omega
  all_goals decide
/-- Buffer B of `busy` holds zeros of both signs. -/
theorem test_witness_ZeroBufferRendersZeros :
    (∀ i, 1 ≤ i → i ≤ 2 * busy.txLen → f64IsZero ((busy.bank .B).data i) = true) ∧ 1 ≤ busy.ld.toNat ∧ 1 ≤ busy.li.toNat ∧
    busy.convLen ≤ busy.txLen := by
  refine ⟨fun i h1 h2 => ?_, by decide, by decide, by decide⟩
  have : i ≤ 4 := h2
  obtain rfl | rfl | rfl | rfl : i = 1 ∨ i = 2 ∨ i = 3 ∨ i = 4 := by omega
  all_goals decide

/-- The value of 1.0. -/
theorem value_one : f64Value 0x3FF0000000000000#64 = 1 := by
  rw [f64Value_of_units (q := 1) (by decide +kernel), Int.cast_one]
/-- The largest finite value. -/
theorem value_max : f64Value 0x7FEFFFFFFFFFFFFF#64 = (2 ^ 53 - 1) * 2 ^ 971 := by
  rw [f64Value_of_units (q := (2 ^ 53 - 1) * 2 ^ 971) (by decide +kernel)]
  simp only [Int.cast_mul, Int.cast_sub, Int.cast_pow, Int.cast_ofNat, Int.cast_one]

/-- 1.0 with 1.0 in each of the four operations lies in the rounded range; the largest finite value doubled does not. -/
theorem test_witness_OperationsRoundToNearestEven :
    f64IsFinite 0x3FF0000000000000#64 = true ∧ f64IsZero 0x3FF0000000000000#64 = false ∧
    |f64Value 0x3FF0000000000000#64 + f64Value 0x3FF0000000000000#64| < (2 ^ 54 - 1) * 2 ^ 970 ∧ |f64Value 0x3FF0000000000000#64 - f64Value 0x3FF0000000000000#64| < (2 ^ 54 - 1) * 2 ^ 970 ∧
    |f64Value 0x3FF0000000000000#64 * f64Value 0x3FF0000000000000#64| < (2 ^ 54 - 1) * 2 ^ 970 ∧ |f64Value 0x3FF0000000000000#64 / f64Value 0x3FF0000000000000#64| < (2 ^ 54 - 1) * 2 ^ 970 ∧
    f64IsFinite 0x7FEFFFFFFFFFFFFF#64 = true ∧
    (2 ^ 54 - 1) * 2 ^ 970 ≤ |f64Value 0x7FEFFFFFFFFFFFFF#64 + f64Value 0x7FEFFFFFFFFFFFFF#64| := by
  rw [value_one, value_max]
  have h1 : (1 : ℚ) ≤ 2 ^ 970 := one_le_pow₀ (by norm_num)
  rw [pow_succ' (2 : ℚ) 970]
  generalize (2 : ℚ) ^ 970 = P at *
  refine ⟨by decide, by decide, ?_, ?_, ?_, ?_, by decide, ?_⟩
  · norm_num; linarith
  · norm_num; linarith
  · norm_num; linarith
  · norm_num; linarith
  · rw [abs_of_nonneg (by nlinarith)]; linarith
/-- A NaN, both infinities, both zeros, and 1.0. -/
theorem test_witness_SpecialResultsAreIeee :
    f64IsNaN 0x7FF8000000000000#64 = true ∧ f64IsInf 0x7FF0000000000000#64 = true ∧ f64IsInf 0xFFF0000000000000#64 = true ∧
    (f64Sign 0x7FF0000000000000#64 = f64Sign 0x7FF0000000000000#64 ∧ f64Sign 0x7FF0000000000000#64 ≠ f64Sign 0xFFF0000000000000#64) ∧ f64IsZero 0#64 = true ∧
    f64IsZero 0x8000000000000000#64 = true ∧ f64IsFinite 0x3FF0000000000000#64 = true ∧ f64IsZero 0x3FF0000000000000#64 = false := by decide
theorem test_witness_IntegersConvertExactly : (2 ^ 53 : Int).natAbs ≤ 2 ^ 53 ∧ (-2 ^ 53 : Int).natAbs ≤ 2 ^ 53 := by decide
theorem test_witness_TruncationIsTowardZero :
    f64IsFinite 0xBFF8000000000000#64 = true ∧ f64IsFinite 0x7FEFFFFFFFFFFFFF#64 = true ∧ f64IsFinite 0x7FF0000000000000#64 = false ∧ f64IsFinite 0x7FF8000000000000#64 = false := by
  decide
theorem test_witness_ComplexProductFormula :
    f64IsNaN (cm (binary64 0) [] 0x3FF0000000000000#64 0x4000000000000000#64 0x4008000000000000#64 0x4010000000000000#64).1 = false ∧ f64IsNaN (cm (binary64 0) [] 0x3FF0000000000000#64 0x4000000000000000#64 0x4008000000000000#64 0x4010000000000000#64).2 = false := by
  decide +kernel

/-- Exact real arithmetic with the exact seeds exists. -/
theorem exists_exact : ∃ A : Arith ℝ, IsExact A := by
  refine ⟨{
    fadd := fun _ x y => x + y
    fsub := fun _ x y => x - y
    fmul := fun _ x y => x * y
    fdiv := fun _ x y => x / y
    fneg := fun x => -x
    fabs := fun x => |x|
    fgt := fun x y => @decide (x > y) (Classical.dec _)
    fiszero := fun x => @decide (x = 0) (Classical.dec _)
    i2f := fun n => n
    f2i := fun x => some (if 0 ≤ x then ⌊x⌋ else ⌈x⌉)
    zero := 0
    one := 1
    c32768 := 32768
    romP := fun stage => Real.cos (2 * Real.pi / 2 ^ stage) - 1
    romQ := fun stage => Real.sin (2 * Real.pi / 2 ^ stage) }, ?_⟩
  constructor <;> intros <;> first | rfl | exact @decide_eq_true_iff _ (Classical.dec _)

theorem test_witness_RecurrenceIsARotation :
    ∃ (A : Arith ℝ) (W : Nat → ℝ × ℝ), IsExact A ∧ W 0 = (A.one, A.zero) ∧
      ∀ r, ∃ site, W (r + 1) = twiddleStep A site (W r) (seeds A .minus 3) := by
  obtain ⟨A, hA⟩ := exists_exact
  exact ⟨A, fun r => Nat.rec (A.one, A.zero) (fun _ w => twiddleStep A [] w (seeds A .minus 3)) r, hA, rfl, fun r => ⟨[], rfl⟩⟩
theorem test_witness_FftComputesTheDft : (∃ A : Arith ℝ, IsExact A) ∧ 7 < 2 ^ 3 := ⟨exists_exact, by decide⟩
theorem test_witness_RoundTripRestoresTheBuffer : (∃ A : Arith ℝ, IsExact A) ∧ Sgn.plus ≠ .minus ∧ 1 ≤ 16 ∧ 16 ≤ 2 * 2 ^ 3 :=
  ⟨exists_exact, by decide, by decide, by decide⟩
theorem test_witness_PipelineComputesCircularConvolution : (∃ A : Arith ℝ, IsExact A) ∧ Sgn.plus ≠ .minus ∧ 7 < 2 ^ 3 :=
  ⟨exists_exact, by decide, by decide⟩
/-- The lengths of the document's example, L = N = 4, with its samples; and L = 4 < N = 8, where padding remains. -/
theorem test_witness_PipelineComputesLinearConvolution :
    (∃ A : Arith ℝ, IsExact A) ∧ 1 ≤ 3 ∧ 1 ≤ 2 ∧ 3 + 2 - 1 ≤ 2 ^ 2 ∧ (3 + 2 - 1 ≤ 7 ∧ 7 < 2 ^ 3) ∧
    (∃ x, IsSampleSeq ⟨words [1#16, 2#16, 3#16], Config.powerUpSample 1⟩ 3 x) ∧
    ∃ h, IsSampleSeq ⟨words [1#16, 1#16], Config.powerUpSample 2⟩ 2 h :=
  ⟨exists_exact, by decide, by decide, by decide, by decide, ⟨_, fun _ _ => rfl⟩, _, fun _ _ => rfl⟩
/-- Only a write and two reads are left. -/
def exhausted : State := { busy with pending := [.read 5 0, .write 1 0 (.w16 9#16), .read 0 4] }

theorem test_witness_ExhaustedRunIsTheResult : runEnd exhausted = some .exhausted ∧ .reset ∉ exhausted.pending := by decide
/-- A stream of two moves. -/
theorem test_witness_EveryStreamEnds : halted.pending.length = 2 := rfl

end Sys2Proof.Tests
end

