-- ==== Sys2Proof/Proofs/Memory.lean ====
section
/-! The host's data port and register port, and which moves reach the sample memories (spec rules R59, R60, R62, R73). -/

namespace Sys2Proof.Machine

/-! ## What a host access can do (rules R59, R60, R62) -/

/-- The space number of XMEM or HMEM at the data port (rule R50). -/
def sampleSpace : Src → Nat
  | .X => 1
  | .H => 2

/-- The space number of a buffer at the data port (rule R50). -/
def bufSpace : Buf → Nat
  | .A => 3
  | .B => 4

/-- A write is refused, or it puts one word into a sample memory or a buffer at an index inside the space. -/
theorem hostWrite_cases (s : State) (sp a : Nat) (v : HostWord) :
    hostWrite s sp a v = s ∨
    (∃ c x, sp = sampleSpace c ∧ v = .w16 x ∧ a < s.nmax ∧ hostWrite s sp a v = s.setSamples c ((s.samples c).write a x)) ∨
    (∃ b x, sp = bufSpace b ∧ v = .w64 x ∧ a < 2 * s.nmax ∧ hostWrite s sp a v = s.setBank b ((s.bank b).write a x)) := by
  fun_cases hostWrite s sp a v
  case case1 x ha => exact .inr (.inl ⟨.X, x, rfl, rfl, ha, rfl⟩)
  case case3 x ha => exact .inr (.inl ⟨.H, x, rfl, rfl, ha, rfl⟩)
  case case5 x ha => exact .inr (.inr ⟨.A, x, rfl, rfl, ha, rfl⟩)
  case case7 x ha => exact .inr (.inr ⟨.B, x, rfl, rfl, ha, rfl⟩)
  all_goals exact .inl rfl

/-- A write that is not refused goes to a writable space, inside it. -/
theorem hostWrite_eq_self_or_inside (s : State) (sp a : Nat) (v : HostWord) :
    hostWrite s sp a v = s ∨ ((sp = 1 ∨ sp = 2) ∧ a < s.nmax) ∨ ((sp = 3 ∨ sp = 4) ∧ a < 2 * s.nmax) := by
  obtain h | ⟨c, -, hsp, -, ha, -⟩ | ⟨b, -, hsp, -, ha, -⟩ := hostWrite_cases s sp a v
  · exact .inl h
  · exact .inr (.inl ⟨by cases c <;> simp [hsp, sampleSpace], ha⟩)
  · exact .inr (.inr ⟨by cases b <;> simp [hsp, bufSpace], ha⟩)

theorem registerPort_eq_none_or_le (s : State) (r : Nat) : registerPort s r = none ∨ r ≤ 9 := by
  fun_cases registerPort s r
  case case11 => exact .inl rfl
  all_goals exact .inr (by decide)

/-- A read that is not refused names a register, or a word inside one of the spaces 1 to 5. -/
theorem hostRead_eq_none_or_inside (s : State) (sp a : Nat) :
    hostRead s sp a = none ∨ (sp = 0 ∧ a ≤ 9) ∨ ((sp = 1 ∨ sp = 2 ∨ sp = 5) ∧ a < s.nmax) ∨
      ((sp = 3 ∨ sp = 4) ∧ a < 2 * s.nmax) := by
  fun_cases hostRead s sp a
  case case1 => exact (registerPort_eq_none_or_le s a).imp_right fun h => .inl ⟨rfl, h⟩
  all_goals simp [*]

/-- STATUS as a number: HALT, FAULT, OVF, PKZ in bits 0 to 3 (rule R24). -/
theorem State.status_toNat (s : State) :
    s.status.toNat = s.halt.toNat + 2 * s.fault.toNat + 4 * s.ovf.toNat + 8 * s.pkz.toNat := by
  unfold State.status
  cases s.halt <;> cases s.fault <;> cases s.ovf <;> cases s.pkz <;> rfl

/-- Settles O20: what is not refused is inside a space. -/
theorem refusedAccessesChangeNothing : Obligations.RefusedAccessesChangeNothing := by
  intro s
  refine ⟨fun sp a v _ => ?_, fun sp a v _ _ => ?_, fun sp a v _ _ => ?_, fun r _ => ?_, fun sp a _ _ => ?_,
    fun sp a _ _ => ?_, fun sp a _ => ?_⟩
  iterate 3 exact (hostWrite_eq_self_or_inside s sp a v).resolve_right (by omega)
  · exact (hostRead_eq_none_or_inside s 0 r).resolve_right (by omega)
  iterate 3 exact (hostRead_eq_none_or_inside s sp a).resolve_right (by omega)

/-- Settles O18, register by register. -/
theorem registerPortReadsTheRegisters : Obligations.RegisterPortReadsTheRegisters := by
  intro s
  have hwrite (r : Nat) (v : HostWord) : hostWrite s 0 r v = s :=
    (hostWrite_eq_self_or_inside s 0 r v).resolve_right (by omega)
  have hzext {n : Nat} (x : BitVec n) (h : n ≤ 32) : ∃ v : Word, some (HostWord.w32 (x.setWidth 32)) = some (HostWord.w32 v) ∧ v.toNat = x.toNat :=
    ⟨_, rfl, BitVec.toNat_setWidth_of_le h⟩
  exact ⟨⟨_, rfl, s.status_toNat⟩, hzext s.fcode (by decide), rfl, rfl, rfl, hzext s.ld (by decide), hzext s.li (by decide),
    hzext s.k (by decide), hzext s.olen (by decide), rfl, fun _ => rfl, fun r v => congrArg _ (hwrite r v)⟩

/-! ## Only the data port writes XMEM and HMEM (rule R73) -/

theorem State.setSamples_samples_ne (s : State) {c e : Src} (h : e ≠ c) (d : Bank Sample) :
    (s.setSamples c d).samples e = s.samples e := by
  cases c <;> cases e
  case X.H | H.X => rfl
  case X.X | H.H => exact absurd rfl h

@[simp] theorem renderInto_samples (b : Buf) (s : State) (c : Src) : (renderInto b s).samples c = s.samples c := by
  simp [renderInto]

@[simp] theorem State.havoc_samples (s : State) (f : Footprint) (c : Src) : (s.havoc f).samples c = s.samples c := by
  cases f <;> simp [State.havoc]

@[simp] theorem resetDuring_samples (w : Word) (s : State) (c : Src) : (resetDuring w s).samples c = s.samples c := by
  simp [resetDuring]

/-- No command writes a sample memory. -/
theorem exec_keeps_samples {i : Instr} {s t : State} (h : exec i s = .next t) (c : Src) : t.samples c = s.samples c := by
  cases i with
  | nop | halt | bitrev | bfly | fft | cmul | scale | peak => cases h; simp
  | setld | setli | setk | prep | norm =>
    simp only [exec, execSetld, execSetli, execSetk, execPrep, execNorm] at h
    split at h <;> cases h <;> simp
  | setn | render =>
    simp only [exec, execSetn, execRender] at h
    split at h
    · split at h <;> cases h <;> simp
    · cases h; simp

theorem commandPort_keeps_samples {w : Word} {s t : State} (h : commandPort w s = .next t) (c : Src) :
    t.samples c = s.samples c := by
  unfold commandPort at h
  split at h
  · cases h; rfl
  · split at h
    · exact exec_keeps_samples h c
    · cases h; simp

theorem hostWrite_keeps_samples {s : State} {sp : Nat} {c : Src} (h : sp ≠ sampleSpace c) (a : Nat) (v : HostWord) :
    (hostWrite s sp a v).samples c = s.samples c := by
  obtain hw | ⟨e, x, rfl, -, -, hw⟩ | ⟨b, x, -, -, -, hw⟩ := hostWrite_cases s sp a v
  · rw [hw]
  · rw [hw, State.setSamples_samples_ne s (fun hce => h (congrArg sampleSpace hce.symm))]
  · rw [hw, State.setBank_samples]

/-- A host move that changes a sample memory is a data-port write to its space. -/
theorem applyMove_changes_samples {m : HostMove} {s t : State} (h : applyMove m s = .next t) {c : Src}
    (hc : t.samples c ≠ s.samples c) : ∃ a v, m = .write (sampleSpace c) a v := by
  cases m with
  | command w => exact absurd (commandPort_keeps_samples h c) hc
  | write sp a v =>
    cases h
    by_cases hsp : sp = sampleSpace c
    · exact ⟨a, v, hsp ▸ rfl⟩
    · exact absurd (hostWrite_keeps_samples hsp a v) hc
  | read | reset | resetDuring => cases h; simp at hc

theorem step_changes_samples {s t : State} (h : step s = .next t) {c : Src} (hc : t.samples c ≠ s.samples c) :
    ∃ a v ms, s.pending = .write (sampleSpace c) a v :: ms := by
  unfold step nextMove at h
  split at h
  case h_1 => cases h; exact absurd rfl hc
  case h_2 m ms hp =>
    obtain ⟨a, v, rfl⟩ := applyMove_changes_samples h (c := c) (by simpa using hc)
    exact ⟨a, v, ms, hp⟩

/-- Settles O27: `step_changes_samples` at XMEM and at HMEM. -/
theorem onlyTheHostWritesSamples : Obligations.OnlyTheHostWritesSamples := fun _ _ h =>
  ⟨fun hx => step_changes_samples h (c := .X) fun hs => hx (congrArg Bank.cells hs),
    fun hx => step_changes_samples h (c := .H) fun hs => hx (congrArg Bank.cells hs)⟩

end Sys2Proof.Machine
end

/-! The opcode map as a partition of the words by their op field, the decoder's answer on and off the map, and the bits the
operands come from (spec rules R81, R87 to R90). -/

namespace Sys2Proof

/-! ## The op field tells the rows apart (rules R81, R89) -/

theorem opField_toNat (w : Word) : (opField w).toNat = w.toNat / 2 ^ 24 := by
  rw [opField, BitVec.extractLsb'_toNat, Nat.shiftRight_eq_div_pow, Nat.mod_eq_of_lt (by have := w.isLt; omega)]

/-- Every mask covers the whole op field, so a word that matches a row carries that row's opcode. -/
theorem opField_of_matches {w : Word} {r : Row} (hr : r ∈ opcodeRows) (h : w &&& r.mask = r.pat) :
    opField w = opField r.pat := by
  have hmask : ∀ r ∈ opcodeRows, opField r.mask = BitVec.allOnes 8 := by decide
  calc opField w = opField w &&& opField r.mask := by rw [hmask r hr, BitVec.and_allOnes]
    _ = opField (w &&& r.mask) := BitVec.extractLsb'_and.symm
    _ = opField r.pat := by rw [h]

/-- The opcodes of the fifteen rows differ, so no word matches two rows. -/
theorem row_eq_of_matches {w : Word} {r r' : Row} (hr : r ∈ opcodeRows) (hr' : r' ∈ opcodeRows)
    (h : w &&& r.mask = r.pat) (h' : w &&& r'.mask = r'.pat) : r = r' := by
  have hnodup : (opcodeRows.map fun r => opField r.pat).Nodup := by decide
  exact List.inj_on_of_nodup_map hnodup hr hr' ((opField_of_matches hr h).symm.trans (opField_of_matches hr' h'))

/-- The op values of the map, written out from the table of rule R88. -/
theorem opKnown_iff (op : BitVec 8) :
    opKnown op = true ↔ op.toNat ∈ [0x00, 0x01, 0x10, 0x11, 0x12, 0x13, 0x14, 0x20, 0x21, 0x22, 0x30, 0x40, 0x41, 0x42, 0x43] := by
  have hops : (opcodeRows.map fun r => (opField r.pat).toNat) =
      [0x00, 0x01, 0x10, 0x11, 0x12, 0x13, 0x14, 0x20, 0x21, 0x22, 0x30, 0x40, 0x41, 0x42, 0x43] := by decide
  simp only [← hops, opKnown, List.any_eq_true, List.mem_map, beq_iff_eq, BitVec.toNat_inj]

/-! ## The decoder on and off the map (rules R89, R90) -/

theorem rowMatches_iff (w : Word) (r : Row) : rowMatches w r = true ↔ w &&& r.mask = r.pat := beq_iff_eq

theorem decode_of_matches {w : Word} {r : Row} (hr : r ∈ opcodeRows) (h : w &&& r.mask = r.pat) :
    decode w = .ok (r.build w) := by
  have hfind : opcodeRows.find? (rowMatches w) = some r := by
    cases hf : opcodeRows.find? (rowMatches w) with
    | none => exact absurd ((rowMatches_iff w r).mpr h) (List.find?_eq_none.mp hf r hr)
    | some r' =>
      have h' : w &&& r'.mask = r'.pat := (rowMatches_iff w r').mp (List.find?_some hf)
      rw [row_eq_of_matches (List.mem_of_find?_eq_some hf) hr h' h]
  rw [decode, hfind]

theorem decode_of_no_match {w : Word} (h : ∀ r ∈ opcodeRows, w &&& r.mask ≠ r.pat) :
    decode w = .error (if opKnown (opField w) then .nonzeroField (opField w) else .unknownOp (opField w)) := by
  have hfind : opcodeRows.find? (rowMatches w) = none :=
    List.find?_eq_none.mpr fun r hr hm => h r hr ((rowMatches_iff w r).mp hm)
  rw [decode, hfind]
  exact (apply_ite _ _ _ _).symm

/-! ## Operands (rule R87) -/

theorem immOf_eq_mod (w : Word) : immOf w = w.toNat % 2 ^ 24 := by
  rw [immOf, BitVec.extractLsb'_toNat, Nat.shiftRight_zero]

/-- An operand that one bit selects, read from the word as a number. -/
theorem ite_getLsbD {α : Type} (w : Word) (i : Nat) (a b : α) :
    (if w.getLsbD i then b else a) = if w.toNat / 2 ^ i % 2 = 0 then a else b := by
  rw [BitVec.getLsbD, Nat.testBit_eq_decide_div_mod_eq]
  rcases Nat.mod_two_eq_zero_or_one (w.toNat / 2 ^ i) with h | h <;> simp [h]

end Sys2Proof

namespace Sys2Proof.Machine

/-- A running engine takes an illegal word as the fault EILL with the word in FINFO (rules R90, R234). -/
theorem commandPort_of_illegal {w : Word} {s : State} {e : Illegal} (hrun : s.stopped = false) (h : decode w = .error e) :
    commandPort w s = .next (s.raise .eill w.toNat) := by
  simp [commandPort, hrun, h]

/-- Settles O3: a word's op field singles out the one row it can match. -/
theorem decoderFollowsTheOpcodeMap : Obligations.DecoderFollowsTheOpcodeMap :=
  ⟨rfl, fun _ _ hr h => decode_of_matches hr h, fun _ h => ⟨_, decode_of_no_match h⟩,
    fun _ _ hr _ hr' h h' => congrArg Row.mnemonic (row_eq_of_matches hr hr' h h')⟩

/-- Settles O5: the decoder's error on an unmatched word, and what the command port makes of it. -/
theorem illegalWordRaisesEill : Obligations.IllegalWordRaisesEill := by
  intro w h
  have herr := decode_of_no_match h
  refine ⟨fun s hhalt hfault => ?_, ?_⟩
  · rw [commandPort_of_illegal (by rw [State.stopped, hhalt, hfault, Bool.or_false]) herr, State.raise, BitVec.ofNat_toNat,
      BitVec.setWidth_eq, faultCode]
  · simp only [herr, opKnown_iff, opField_toNat]

/-- Settles O4: the immediate is a remainder, and each of the other operands is selected by one bit. -/
theorem operandsComeFromTheirBits : Obligations.OperandsComeFromTheirBits := by
  refine fun w => ⟨immOf_eq_mod w, ?_, ?_, ?_⟩
  · rw [bufOf, ite_getLsbD, pow_zero, Nat.div_one]
  · rw [sgnOf, ite_getLsbD, pow_one]
  · rw [srcOf, ite_getLsbD, pow_one]

end Sys2Proof.Machine

/-! The bit-reverse function as a permutation of bit positions (spec rules R112, R113). -/

namespace Sys2Proof.Machine

/-- Bit t of p has weight 2^(K − 1 − t) in rev_K(p); no bound on p is needed, since rev_K reads K bits only. -/
theorem rev_eq_sum (k p : Nat) : rev k p = ∑ t ∈ Finset.range k, p / 2 ^ t % 2 * 2 ^ (k - 1 - t) := by
  induction k generalizing p with
  | zero => rfl
  | succ k ih =>
    have hshift (t : Nat) : p / 2 ^ (t + 1) % 2 * 2 ^ (k + 1 - 1 - (t + 1)) = p / 2 / 2 ^ t % 2 * 2 ^ (k - 1 - t) := by
      rw [Nat.div_div_eq_div_mul, ← Nat.pow_succ', Nat.add_sub_cancel, Nat.sub_sub, Nat.add_comm 1 t]
    rw [Finset.sum_range_succ', Finset.sum_congr rfl fun t _ => hshift t, ← ih, rev, Nat.add_comm]
    simp

theorem rev_testBit (k p i : Nat) : (rev k p).testBit i = (decide (i < k) && p.testBit (k - 1 - i)) := by
  induction k generalizing p with
  | zero => simp [rev]
  | succ k ih =>
    rw [rev, Nat.mul_comm, Nat.testBit_two_pow_mul_add _ (rev_lt k _), ih, Nat.testBit_div_two]
    rcases Nat.lt_trichotomy i k with hi | rfl | hi
    · simp [hi, Nat.lt_succ_of_lt hi, show k - 1 - i + 1 = k - i by omega]
    · simp
    · have hone : p % 2 < 2 ^ (i - k) :=
        (Nat.mod_lt p Nat.two_pos).trans_le (Nat.le_self_pow (Nat.sub_ne_zero_of_lt hi) 2)
      simp [Nat.not_lt_of_gt hi, Nat.not_lt.mpr hi, Nat.testBit_lt_two_pow hone]

theorem rev_rev {k p : Nat} (h : p < 2 ^ k) : rev k (rev k p) = p := by
  apply Nat.eq_of_testBit_eq
  intro i
  rw [rev_testBit, rev_testBit]
  by_cases hi : i < k
  · simp [hi, show k - 1 - i < k by omega, show k - 1 - (k - 1 - i) = i by omega]
  · have hp : p < 2 ^ i := h.trans_le (Nat.pow_le_pow_right Nat.two_pos (Nat.le_of_not_lt hi))
    simp [hi, Nat.testBit_lt_two_pow hp]

/-- Settles O36: `rev_eq_sum`. -/
theorem revReadsBitsBackwards : Obligations.RevReadsBitsBackwards := ⟨fun k p _ => rev_eq_sum k p, rfl⟩

/-- Settles O37: bit i goes to bit K − 1 − i and back. -/
theorem revIsAnInvolution : Obligations.RevIsAnInvolution := fun k p h => ⟨rev_lt k p, rev_rev h⟩

end Sys2Proof.Machine

/-! Binary64 magnitudes as significand and shift, what rounds exactly, and the operations on finite operands (spec rules R55,
R100). -/

namespace Sys2Proof.Machine

/-! ## Classes of patterns -/

theorem f64IsFinite_iff (x : RealWord) : f64IsFinite x = true ↔ f64Exp x ≠ 2047 := bne_iff_ne

theorem f64IsNaN_of_finite {x : RealWord} (h : f64IsFinite x = true) : f64IsNaN x = false := by
  rw [f64IsNaN, beq_eq_false_iff_ne.mpr ((f64IsFinite_iff x).mp h), Bool.false_and]

theorem f64IsInf_of_finite {x : RealWord} (h : f64IsFinite x = true) : f64IsInf x = false := by
  rw [f64IsInf, beq_eq_false_iff_ne.mpr ((f64IsFinite_iff x).mp h), Bool.false_and]

theorem f64Exp_lt (x : RealWord) : f64Exp x < 2 ^ 11 := BitVec.isLt _

theorem f64Frac_lt (x : RealWord) : f64Frac x < 2 ^ 52 := BitVec.isLt _

theorem toNat_mod_eq (x : RealWord) : x.toNat % 2 ^ 63 = f64Exp x * 2 ^ 52 + f64Frac x := by
  rw [f64Exp_eq, f64Frac_eq]
  omega

/-- A pattern is its sign in front of its other bits. -/
theorem f64Pack_sign_toNat (x : RealWord) : f64Pack (f64Sign x) (x.toNat % 2 ^ 63) = x := by
  have hx := x.isLt
  apply BitVec.eq_of_toNat_eq
  rw [f64Pack_toNat _ (Nat.mod_lt _ (Nat.two_pow_pos 63)), f64Sign_eq]
  simp only [decide_eq_true_eq]
  split <;> omega

theorem f64IsFinite_pack (neg : Bool) {mag : Nat} (h : mag < f64InfMag) : f64IsFinite (f64Pack neg mag) = true := by
  have hexp : mag / 2 ^ 52 < 2047 := Nat.div_lt_of_lt_mul (by rwa [Nat.mul_comm])
  rw [f64IsFinite_iff, f64Exp_pack neg (h.trans f64InfMag_lt)]
  exact hexp.ne

@[simp] theorem f64IsFinite_neg (x : RealWord) : f64IsFinite (f64Neg x) = f64IsFinite x := by simp [f64IsFinite]

theorem eq_of_isInf {x y : RealWord} (hx : f64IsInf x = true) (hy : f64IsInf y = true) (h : f64Sign x = f64Sign y) : x = y := by
  simp only [f64IsInf, Bool.and_eq_true, beq_iff_eq] at hx hy
  rw [← f64Pack_sign_toNat x, ← f64Pack_sign_toNat y, toNat_mod_eq, toNat_mod_eq, h, hx.1, hx.2, hy.1, hy.2]

theorem eq_f64Inf_of_isInf {x : RealWord} (hx : f64IsInf x = true) : x = f64Inf (f64Sign x) :=
  eq_of_isInf hx (by cases f64Sign x <;> decide) (f64Sign_pack _ f64InfMag_lt).symm

/-- A pattern that is not a NaN is finite or one of the two infinities. -/
theorem finite_or_eq_f64Inf {x : RealWord} (h : f64IsNaN x = false) :
    f64IsFinite x = true ∨ x = f64Inf false ∨ x = f64Inf true := by
  by_cases hexp : f64Exp x = 2047
  · have hinf : f64IsInf x = true := by simpa [f64IsNaN, f64IsInf, hexp] using h
    have hx := eq_f64Inf_of_isInf hinf
    cases hs : f64Sign x <;> rw [hs] at hx
    · exact .inr (.inl hx)
    · exact .inr (.inr hx)
  · exact .inl ((f64IsFinite_iff x).mpr hexp)

theorem f64IsFinite_f64Inf (neg : Bool) : f64IsFinite (f64Inf neg) = false := by cases neg <;> decide

theorem ne_f64Inf_of_finite {x : RealWord} (h : f64IsFinite x = true) (neg : Bool) : x ≠ f64Inf neg := by
  rintro rfl
  rw [f64IsFinite_f64Inf] at h
  cases h

/-! ## Zeros -/

theorem f64Mag_eq_zero_iff (x : RealWord) : f64Mag x = 0 ↔ f64IsZero x = true := by
  rw [f64IsZero_eq, decide_eq_true_iff, toNat_mod_eq, f64Mag]
  split
  · omega
  · simp; omega

theorem f64Int_natAbs (x : RealWord) : (f64Int x).natAbs = f64Mag x := by
  rw [f64Int]
  split <;> simp

theorem f64Int_eq_zero_iff (x : RealWord) : f64Int x = 0 ↔ f64IsZero x = true := by
  rw [← Int.natAbs_eq_zero, f64Int_natAbs, f64Mag_eq_zero_iff]

theorem f64Int_neg_iff {x : RealWord} (h : f64IsZero x = false) : f64Int x < 0 ↔ f64Sign x = true := by
  have hmag : f64Mag x ≠ 0 := by rw [Ne, f64Mag_eq_zero_iff, h]; decide
  rw [f64Int]
  cases f64Sign x <;> simp; omega

theorem f64IsFinite_of_isZero {x : RealWord} (h : f64IsZero x = true) : f64IsFinite x = true := by
  rw [f64IsZero_eq, decide_eq_true_iff, toNat_mod_eq] at h
  rw [f64IsFinite_iff]
  omega

@[simp] theorem f64IsZero_neg (x : RealWord) : f64IsZero (f64Neg x) = f64IsZero x := by
  rw [Bool.eq_iff_iff, ← f64Mag_eq_zero_iff, ← f64Mag_eq_zero_iff, f64Mag_neg]

/-! ## Significand and shift -/

/-- The magnitude q·2^e units is written with the one significand and shift that binary64 has for it: at most 53 bits, the
highest of them set unless the shift is 0, and the shift below that of the infinities. Its magnitude bits are e·2^52 + q. -/
structure Canonical (q e : Nat) : Prop where
  sig_lt : q < 2 ^ 53
  normal : e = 0 ∨ 2 ^ 52 ≤ q
  shift_le : e ≤ 2045

theorem canonical_zero : Canonical 0 0 := ⟨by decide, .inl rfl, by decide⟩

theorem exists_canonical_of_finite {x : RealWord} (h : f64IsFinite x = true) :
    ∃ q e, Canonical q e ∧ f64Mag x = q * 2 ^ e ∧ x.toNat % 2 ^ 63 = e * 2 ^ 52 + q := by
  rw [f64IsFinite_iff] at h
  have hexp := f64Exp_lt x
  have hfrac := f64Frac_lt x
  rw [toNat_mod_eq]
  by_cases h0 : f64Exp x = 0
  · exact ⟨f64Frac x, 0, ⟨by omega, .inl rfl, by omega⟩, by simp [f64Mag, h0], by omega⟩
  · exact ⟨2 ^ 52 + f64Frac x, f64Exp x - 1, ⟨by omega, .inr (by omega), by omega⟩, if_neg h0, by omega⟩

theorem Canonical.bits_lt {q e : Nat} (h : Canonical q e) : e * 2 ^ 52 + q < f64InfMag := by
  obtain ⟨hq, -, he⟩ := h
  have hinf : f64InfMag = 2047 * 2 ^ 52 := rfl
  omega

theorem Canonical.f64Mag_pack {q e : Nat} (h : Canonical q e) (neg : Bool) :
    f64Mag (f64Pack neg (e * 2 ^ 52 + q)) = q * 2 ^ e := by
  have hlt := h.bits_lt.trans f64InfMag_lt
  obtain ⟨hq, hnormal, he⟩ := h
  rw [f64Mag, f64Exp_pack neg hlt, f64Frac_pack neg hlt]
  by_cases hsub : q < 2 ^ 52
  · obtain rfl : e = 0 := hnormal.resolve_right (Nat.not_le_of_lt hsub)
    rw [if_pos (by omega)]
    omega
  · rw [if_neg (by omega), show (e * 2 ^ 52 + q) / 2 ^ 52 - 1 = e by omega, show 2 ^ 52 + (e * 2 ^ 52 + q) % 2 ^ 52 = q by omega]

/-- A significand of 2^53 is the significand 2^52 of the next binade. -/
theorem two_pow_53_mul (e : Nat) : 2 ^ 53 * 2 ^ e = 2 ^ 52 * 2 ^ (e + 1) := by ring

/-- A whole number up to 2^53 has a canonical form at any shift that leaves room for 53 bits. -/
theorem exists_canonical_of_le {m a : Nat} (h : m ≤ 2 ^ 53) (hlo : 52 ≤ a) (hhi : a ≤ 2044) :
    ∃ q e, Canonical q e ∧ m * 2 ^ a = q * 2 ^ e := by
  rcases h.lt_or_eq with hlt | rfl
  · rcases Nat.eq_zero_or_pos m with rfl | hpos
    · exact ⟨0, 0, canonical_zero, by simp⟩
    · have hlog : m.log2 < 53 := (Nat.log2_lt hpos.ne').mpr hlt
      have hsplit (b c n : Nat) (h : b + c = n) : 2 ^ b * 2 ^ c = 2 ^ n := by rw [← pow_add, h]
      refine ⟨m * 2 ^ (52 - m.log2), a - 52 + m.log2, ⟨?_, .inr ?_, by omega⟩, ?_⟩
      · rw [← hsplit (m.log2 + 1) (52 - m.log2) 53 (by omega)]
        exact Nat.mul_lt_mul_of_pos_right Nat.lt_log2_self (Nat.two_pow_pos _)
      · rw [← hsplit m.log2 (52 - m.log2) 52 (by omega)]
        exact Nat.mul_le_mul_right _ (Nat.log2_self_le hpos.ne')
      · rw [mul_assoc, hsplit _ _ a (by omega)]
  · exact ⟨2 ^ 52, a + 1, ⟨by decide, .inr le_rfl, by omega⟩, two_pow_53_mul a⟩

/-! ## Rounding what needs no rounding -/

theorem roundEven_mul {d : Nat} (hd : 0 < d) (q : Nat) : roundEven (q * d) d = q := by
  rw [roundEven, Nat.mul_mod_left, Nat.mul_div_cancel q hd, if_pos hd]

theorem Canonical.shift_eq {q e : Nat} (h : Canonical q e) : (q * 2 ^ e).log2 - 52 = e := by
  obtain ⟨hq, rfl | hnormal, -⟩ := h
  · rcases Nat.eq_zero_or_pos q with rfl | hpos
    · rfl
    · have := (Nat.log2_lt hpos.ne').mpr hq
      rw [pow_zero, mul_one]
      omega
  · have hlog : (q * 2 ^ e).log2 = 52 + e := by
      rw [Nat.log2_eq_iff (by positivity), pow_add, show 52 + e + 1 = 53 + e by omega, pow_add]
      exact ⟨Nat.mul_le_mul_right _ hnormal, Nat.mul_lt_mul_of_pos_right hq (Nat.two_pow_pos e)⟩
    omega

theorem Canonical.roundUnits_eq {q e d : Nat} (h : Canonical q e) (hd : 0 < d) :
    roundUnits (q * 2 ^ e * d) d = e * 2 ^ 52 + q := by
  rw [roundUnits, Nat.mul_div_cancel _ hd, h.shift_eq, mul_assoc, mul_comm (2 ^ e) d, roundEven_mul (by positivity)]
  exact min_eq_left h.bits_lt.le

/-- A finite magnitude rounds to itself. -/
theorem roundUnits_f64Mag {x : RealWord} (hx : f64IsFinite x = true) {d : Nat} (hd : 0 < d) :
    roundUnits (f64Mag x * d) d = x.toNat % 2 ^ 63 := by
  obtain ⟨q, e, hqe, hmag, hbits⟩ := exists_canonical_of_finite hx
  rw [hmag, hbits, hqe.roundUnits_eq hd]

theorem roundUnits_zero {d : Nat} (hd : 0 < d) : roundUnits 0 d = 0 := by
  simpa using canonical_zero.roundUnits_eq hd

theorem f64One_pos : 0 < f64One := by
  rw [f64One]
  apply Nat.two_pow_pos

/-! ## Sums and products -/

theorem f64Mul_comm (nan x y : RealWord) : f64Mul nan x y = f64Mul nan y x := by
  simp only [f64Mul, bne_comm (a := f64Sign x), Bool.or_comm (f64IsNaN x), Bool.or_comm (f64IsInf x),
    Bool.or_comm (f64IsZero x), Nat.mul_comm (f64Mag x)]

theorem f64Add_comm (nan x y : RealWord) : f64Add nan x y = f64Add nan y x := by
  unfold f64Add
  rw [Bool.or_comm (f64IsNaN x), Int.add_comm, Bool.and_comm (f64Sign x), bne_comm (a := f64Sign x)]
  cases hx : f64IsInf x
  case false => simp
  case true =>
    cases hy : f64IsInf y
    case false => simp
    case true =>
      by_cases hs : f64Sign y = f64Sign x
      · simp [eq_of_isInf hy hx hs]
      · simp [hs]

theorem f64Mul_eq_nan_or_forall (nan x y : RealWord) : f64Mul nan x y = nan ∨ ∀ nan', f64Mul nan' x y = f64Mul nan x y := by
  unfold f64Mul
  split_ifs <;> simp

/-- A product that is a number does not depend on the NaN the operation would have drawn. -/
theorem f64Mul_congr_nan {nan x y : RealWord} (hnan : f64IsNaN nan = true) (h : f64IsNaN (f64Mul nan x y) = false)
    (nan' : RealWord) : f64Mul nan' x y = f64Mul nan x y := by
  obtain heq | hall := f64Mul_eq_nan_or_forall nan x y
  · rw [heq, hnan] at h
    cases h
  · exact hall nan'

/-- A sum that is a number has numbers as operands. -/
theorem f64IsNaN_operands_of_f64Add {nan x y : RealWord} (hnan : f64IsNaN nan = true) (h : f64IsNaN (f64Add nan x y) = false) :
    f64IsNaN x = false ∧ f64IsNaN y = false := by
  rw [← Bool.or_eq_false_iff, ← Bool.not_eq_true]
  intro hxy
  simp [f64Add, hxy, hnan] at h

theorem f64IsNaN_nanAt (draw : Nat) (site : Site) : f64IsNaN (nanAt draw site) = true := f64IsNaN_quietNaN _

theorem f64Mul_of_finite (nan : RealWord) {x y : RealWord} (hx : f64IsFinite x = true) (hy : f64IsFinite y = true) :
    f64Mul nan x y = f64Pack (f64Sign x != f64Sign y) (roundUnits (f64Mag x * f64Mag y) f64One) := by
  simp [f64Mul, f64IsNaN_of_finite, f64IsInf_of_finite, hx, hy]

theorem f64Add_of_finite (nan : RealWord) {x y : RealWord} (hx : f64IsFinite x = true) (hy : f64IsFinite y = true) :
    f64Add nan x y = if f64Int x + f64Int y = 0 then f64Zero (f64Sign x && f64Sign y)
      else f64Pack (decide (f64Int x + f64Int y < 0)) (roundUnits (f64Int x + f64Int y).natAbs 1) := by
  simp [f64Add, f64IsNaN_of_finite, f64IsInf_of_finite, hx, hy]

theorem f64Add_zero_right (nan : RealWord) {x z : RealWord} (hx : f64IsFinite x = true) (hx0 : f64IsZero x = false)
    (hz : f64IsZero z = true) : f64Add nan x z = x := by
  have hround := roundUnits_f64Mag hx Nat.one_pos
  have hne : f64Int x ≠ 0 := by rw [Ne, f64Int_eq_zero_iff, hx0]; decide
  rw [mul_one] at hround
  rw [f64Add_of_finite nan hx (f64IsFinite_of_isZero hz), (f64Int_eq_zero_iff z).mpr hz, Int.add_zero, if_neg hne,
    f64Int_natAbs, hround]
  simpa [f64Int_neg_iff hx0] using f64Pack_sign_toNat x

theorem f64Add_neg_self (nan : RealWord) {x : RealWord} (hx : f64IsFinite x = true) : f64Add nan (f64Neg x) x = 0#64 := by
  rw [f64Add_of_finite nan (by rwa [f64IsFinite_neg]) hx, f64Int_neg, neg_add_cancel, if_pos rfl, f64Sign_neg,
    Bool.not_and_self]
  decide

theorem f64Mul_one_left (nan : RealWord) {x : RealWord} (hx : f64IsFinite x = true) :
    f64Mul nan 0x3FF0000000000000#64 x = x := by
  have hmag : f64Mag 0x3FF0000000000000#64 = f64One := by decide +kernel
  have hsign : f64Sign 0x3FF0000000000000#64 = false := by decide
  rw [f64Mul_of_finite nan (by decide) hx, hmag, hsign, Nat.mul_comm, roundUnits_f64Mag hx f64One_pos, Bool.false_bne]
  exact f64Pack_sign_toNat x

theorem f64IsZero_f64Zero (neg : Bool) : f64IsZero (f64Zero neg) = true := by cases neg <;> decide

theorem f64Mul_zero_left (nan : RealWord) {z x : RealWord} (hz : f64IsZero z = true) (hx : f64IsFinite x = true) :
    f64IsZero (f64Mul nan z x) = true := by
  rw [f64Mul_of_finite nan (f64IsFinite_of_isZero hz) hx, (f64Mag_eq_zero_iff z).mpr hz, zero_mul, roundUnits_zero f64One_pos]
  exact f64IsZero_f64Zero _

/-! ## Values -/

theorem cast_f64One : (f64One : ℚ) = 2 ^ 1074 := by rw [f64One, Nat.cast_pow, Nat.cast_ofNat]

theorem f64Value_eq_div (x : RealWord) : f64Value x = (f64Int x : ℚ) / (f64One : ℚ) := by rw [f64Value, cast_f64One]

theorem f64Value_nonneg_iff (x : RealWord) : 0 ≤ f64Value x ↔ 0 ≤ f64Int x := by
  rw [f64Value_eq_div, le_div_iff₀ (Nat.cast_pos.mpr f64One_pos), zero_mul, Int.cast_nonneg_iff]

theorem f64Value_nonpos_iff (x : RealWord) : f64Value x ≤ 0 ↔ f64Int x ≤ 0 := by
  rw [f64Value_eq_div, div_le_iff₀ (Nat.cast_pos.mpr f64One_pos), zero_mul, Int.cast_nonpos]

theorem f64Value_lt_iff (x y : RealWord) : f64Value x < f64Value y ↔ f64Int x < f64Int y := by
  rw [f64Value_eq_div, f64Value_eq_div, div_lt_div_iff_of_pos_right (Nat.cast_pos.mpr f64One_pos), Int.cast_lt]

end Sys2Proof.Machine

/-! The sign, order, conversion and product operations of the arithmetic units (spec rules R101 to R103, R106). -/

namespace Sys2Proof.Machine

/-! ## Signs and the zero test (rule R101) -/

theorem f64Neg_bit (x : RealWord) {i : Nat} (hi : i < 64) :
    (f64Neg x).getLsbD i = if i = 63 then !x.getLsbD i else x.getLsbD i := by
  split
  case isTrue h => subst h; exact f64Sign_neg x
  case isFalse h => exact f64Neg_getLsbD x i (by omega)

theorem f64Abs_bit (x : RealWord) {i : Nat} (hi : i < 64) :
    (f64Abs x).getLsbD i = if i = 63 then false else x.getLsbD i := by
  split
  case isTrue h => subst h; exact f64Sign_abs x
  case isFalse h =>
    rw [BitVec.getLsbD, f64Abs_toNat, Nat.testBit_mod_two_pow, decide_eq_true (by omega), Bool.true_and, BitVec.getLsbD]

theorem f64IsZero_iff (x : RealWord) : f64IsZero x = true ↔ x = 0x0000000000000000#64 ∨ x = 0x8000000000000000#64 := by
  have hx := x.isLt
  rw [f64IsZero_eq, decide_eq_true_iff, ← BitVec.toNat_inj, ← BitVec.toNat_inj]
  change _ ↔ x.toNat = 0 ∨ x.toNat = 2 ^ 63
  omega

/-! ## Order (rule R101) -/

theorem f64Mag_lt_of_isInf {x y : RealWord} (hx : f64IsFinite x = true) (hy : f64IsInf y = true) : f64Mag x < f64Mag y := by
  obtain ⟨q, e, ⟨hq, -, he⟩, hmag, -⟩ := exists_canonical_of_finite hx
  obtain ⟨hexp, -⟩ : f64Exp y = 2047 ∧ f64Frac y = 0 := by simpa [f64IsInf] using hy
  calc f64Mag x = q * 2 ^ e := hmag
    _ < 2 ^ 53 * 2 ^ e := Nat.mul_lt_mul_of_pos_right hq (Nat.two_pow_pos e)
    _ = 2 ^ 52 * 2 ^ (e + 1) := two_pow_53_mul e
    _ ≤ (2 ^ 52 + f64Frac y) * 2 ^ (f64Exp y - 1) :=
      Nat.mul_le_mul (Nat.le_add_right _ _) (Nat.pow_le_pow_right Nat.two_pos (by omega))
    _ = f64Mag y := (if_neg (by omega)).symm

theorem f64Int_lt_posInf_iff {y : RealWord} (h : f64IsNaN y = false) :
    f64Int y < f64Int (f64Inf false) ↔ y ≠ f64Inf false := by
  obtain hy | rfl | rfl := finite_or_eq_f64Inf h
  · have hmag := f64Mag_lt_of_isInf hy (y := f64Inf false) (by decide)
    have hinf : f64Int (f64Inf false) = f64Mag (f64Inf false) := if_neg (by decide)
    have habs := f64Int_natAbs y
    exact iff_of_true (by omega) (ne_f64Inf_of_finite hy false)
  · exact iff_of_false (lt_irrefl _) (not_not_intro rfl)
  · exact iff_of_true (by decide +kernel) (by decide)

/-- The mirror image of `f64Int_lt_posInf_iff` under negation. -/
theorem f64Int_negInf_lt_iff {x : RealWord} (h : f64IsNaN x = false) :
    f64Int (f64Inf true) < f64Int x ↔ x ≠ f64Inf true := by
  have hpos := f64Int_lt_posInf_iff (f64IsNaN_neg x ▸ h)
  have hneg : f64Inf false = f64Neg (f64Inf true) := by decide
  rwa [hneg, f64Int_neg, f64Int_neg, neg_lt_neg_iff, ne_eq, f64Neg, f64Neg, BitVec.xor_left_inj] at hpos

theorem f64Int_le_posInf {y : RealWord} (h : f64IsNaN y = false) : f64Int y ≤ f64Int (f64Inf false) := by
  by_cases hy : y = f64Inf false
  · rw [hy]
  · exact ((f64Int_lt_posInf_iff h).mpr hy).le

theorem negInf_le_f64Int {x : RealWord} (h : f64IsNaN x = false) : f64Int (f64Inf true) ≤ f64Int x := by
  by_cases hx : x = f64Inf true
  · rw [hx]
  · exact ((f64Int_negInf_lt_iff h).mpr hx).le

theorem f64Gt_iff {x y : RealWord} (hx : f64IsNaN x = false) (hy : f64IsNaN y = false) :
    f64Gt x y = true ↔ f64IsFinite x = true ∧ f64IsFinite y = true ∧ f64Value y < f64Value x ∨
      x = f64Inf false ∧ y ≠ f64Inf false ∨ y = f64Inf true ∧ x ≠ f64Inf true := by
  have hgt : f64Gt x y = true ↔ f64Int y < f64Int x := by simp [f64Gt, hx, hy]
  have hinf : f64Inf true ≠ f64Inf false := by decide
  rw [hgt]
  obtain hxf | rfl | rfl := finite_or_eq_f64Inf hx
  · obtain hyf | rfl | rfl := finite_or_eq_f64Inf hy
    · simp [hxf, hyf, ne_f64Inf_of_finite, f64Value_lt_iff]
    · simp [f64Int_le_posInf hx, ne_f64Inf_of_finite hxf, f64IsFinite_f64Inf, hinf.symm]
    · simp [f64Int_negInf_lt_iff hx, ne_f64Inf_of_finite hxf]
  · have hy' : y = f64Inf true → y ≠ f64Inf false := fun h => h ▸ hinf
    simpa [f64Int_lt_posInf_iff hy, f64IsFinite_f64Inf, hinf.symm] using hy'
  · simp [negInf_le_f64Int hy, f64IsFinite_f64Inf, hinf]

/-- Settles O51: the two sign operations bit by bit, `f64Gt_iff` on numbers, and a NaN unordered by definition. -/
theorem signOrderAndZeroTests : Obligations.SignOrderAndZeroTests := by
  refine fun x y => ⟨fun i hi => ⟨f64Neg_bit x hi, f64Abs_bit x hi⟩, ?_, f64IsZero_iff x⟩
  rw [show (0x7FF0000000000000#64) = f64Inf false from by decide, show (0xFFF0000000000000#64) = f64Inf true from by decide]
  cases hx : f64IsNaN x
  case true => simp [f64Gt, hx]
  case false =>
    cases hy : f64IsNaN y
    case true => simp [f64Gt, hy]
    case false => simpa only [true_and, gt_iff_lt] using f64Gt_iff hx hy

/-! ## Conversions (rules R102, R103) -/

theorem f64OfInt_exact {n : Int} (h : n.natAbs ≤ 2 ^ 53) :
    f64IsFinite (f64OfInt n) = true ∧ f64Int (f64OfInt n) = n * f64One := by
  obtain ⟨q, e, hqe, hunits⟩ : ∃ q e, Canonical q e ∧ n.natAbs * f64One = q * 2 ^ e :=
    exists_canonical_of_le h (by decide) (by decide)
  have hround := hqe.roundUnits_eq Nat.one_pos
  have hsign : (if decide (n < 0) then -(n.natAbs : Int) else n.natAbs) = n := by
    simp only [decide_eq_true_eq]
    split <;> omega
  rw [mul_one, ← hunits] at hround
  rw [f64OfInt, hround, f64Int, f64Sign_pack _ (hqe.bits_lt.trans f64InfMag_lt), hqe.f64Mag_pack, ← hunits]
  exact ⟨f64IsFinite_pack _ hqe.bits_lt, by rw [Nat.cast_mul, ← neg_mul, ← ite_mul, hsign]⟩

/-- Settles O52: an integer of at most 53 bits, or 2^53, needs no rounding. -/
theorem integersConvertExactly : Obligations.IntegersConvertExactly :=
  ⟨fun _ h => (f64OfInt_exact h).imp_right f64Value_of_units, by decide +kernel⟩

/-- Division of integers with truncation, against the rational quotient. -/
theorem tdiv_truncates (z : Int) (d : Nat) :
    |(z.tdiv d : ℚ)| ≤ |(z : ℚ) / d| ∧ |(z : ℚ) / d| < |(z.tdiv d : ℚ)| + 1 := by
  have hq : |(z.tdiv d : ℚ)| = (z.natAbs / d : Nat) := by
    rw [← Int.cast_abs, Int.abs_eq_natAbs, Int.natAbs_tdiv, Int.natAbs_natCast, Int.cast_natCast]
    rfl
  have hz : |(z : ℚ) / d| = (z.natAbs : ℚ) / d := by
    rw [abs_div, Nat.abs_cast, ← Int.cast_abs, Int.abs_eq_natAbs, Int.cast_natCast]
  rw [hq, hz]
  refine ⟨Nat.cast_div_le, ?_⟩
  rw [← Nat.floor_div_eq_div (K := ℚ)]
  exact Nat.lt_floor_add_one _

/-- Settles O53: `tdiv_truncates` on the units of the value, with the signs of the truncated quotient. -/
theorem truncationIsTowardZero : Obligations.TruncationIsTowardZero := by
  refine fun x => ⟨fun h => ⟨(f64Int x).tdiv f64One, if_pos h, ?_⟩, fun h => if_neg (h ▸ Bool.false_ne_true)⟩
  obtain ⟨hle, hlt⟩ := tdiv_truncates (f64Int x) f64One
  rw [← f64Value_eq_div] at hle hlt
  refine ⟨hle, hlt, fun h => ?_, fun h => ?_⟩
  · exact Int.tdiv_nonneg ((f64Value_nonneg_iff x).mp h) (Int.natCast_nonneg _)
  · rw [← neg_nonneg, ← Int.neg_tdiv]
    exact Int.tdiv_nonneg (neg_nonneg.mpr ((f64Value_nonpos_iff x).mp h)) (Int.natCast_nonneg _)

/-! ## The complex product (rule R106) -/

/-- Settles O54: the real part draws at the same sites in both orders; in the imaginary part the two products change places,
which only a NaN could tell. -/
theorem complexProductFormula : Obligations.ComplexProductFormula := by
  refine fun draw site a b c d => ⟨rfl, fun _ => ?_, fun h => ?_⟩
  · simp only [cm, binary64, f64Mul_comm _ c, f64Mul_comm _ d]
  · obtain ⟨had, hbc⟩ := f64IsNaN_operands_of_f64Add (f64IsNaN_nanAt _ _) h
    have hcb := (f64Mul_comm _ c b).trans (f64Mul_congr_nan (f64IsNaN_nanAt _ _) hbc (nanAt draw (2 :: site)))
    have hda := (f64Mul_comm _ d a).trans (f64Mul_congr_nan (f64IsNaN_nanAt _ _) had (nanAt draw (3 :: site)))
    calc (cm (binary64 draw) site c d a b).2
      _ = f64Add (nanAt draw (5 :: site)) (f64Mul (nanAt draw (3 :: site)) b c) (f64Mul (nanAt draw (2 :: site)) a d) :=
        congrArg₂ (f64Add _) hcb hda
      _ = (cm (binary64 draw) site a b c d).2 := f64Add_comm _ _ _

end Sys2Proof.Machine

/-! The twiddle recurrence: a rotation under exact arithmetic, and exact from (1.0, 0.0) when the cosine seed is −1.0 (spec
rules R109 to R111). -/

namespace Sys2Proof.Machine

/-- The base angle θ = sgn·2π/2^s of a stage (rules R109, R111). -/
noncomputable def stageAngle (sgn : Sgn) (stage : Nat) : ℝ := sgnInt sgn * (2 * Real.pi / 2 ^ stage)

theorem IsExact.seeds_eq {A : Arith ℝ} (hA : IsExact A) (sgn : Sgn) (stage : Nat) :
    seeds A sgn stage = (Real.cos (stageAngle sgn stage) - 1, Real.sin (stageAngle sgn stage)) := by
  cases sgn <;> simp [seeds, stageAngle, sgnInt, hA.romP, hA.romQ, hA.fneg]

theorem IsExact.twiddleStep_eq {A : Arith ℝ} (hA : IsExact A) (site : Site) (sgn : Sgn) (stage : Nat) (φ : ℝ) :
    twiddleStep A site (Real.cos φ, Real.sin φ) (seeds A sgn stage) =
      (Real.cos (φ + stageAngle sgn stage), Real.sin (φ + stageAngle sgn stage)) := by
  rw [hA.seeds_eq, Real.cos_add, Real.sin_add]
  simp only [twiddleStep, hA.fadd, hA.fsub, hA.fmul, Prod.mk.injEq]
  constructor <;> ring

theorem IsExact.twiddle_eq {A : Arith ℝ} (hA : IsExact A) {sgn : Sgn} {stage : Nat} {W : Nat → ℝ × ℝ}
    (h0 : W 0 = (A.one, A.zero)) (hstep : ∀ r, ∃ site, W (r + 1) = twiddleStep A site (W r) (seeds A sgn stage)) (r : Nat) :
    W r = (Real.cos (r * stageAngle sgn stage), Real.sin (r * stageAngle sgn stage)) := by
  induction r with
  | zero => simp [h0, hA.one, hA.zero]
  | succ r ih =>
    obtain ⟨site, hr⟩ := hstep r
    rw [hr, ih, hA.twiddleStep_eq, Nat.cast_succ, add_one_mul]

/-- REC(1.0, 0.0, −1.0, q) = (+0.0, q): every product has a factor 1.0 or a zero, and −1.0 + 1.0 is +0.0. -/
theorem twiddleStep_one_zero (draw : Nat) (site : Site) {q : RealWord} (hq : f64IsFinite q = true) (hq0 : f64IsZero q = false) :
    twiddleStep (binary64 draw) site (0x3FF0000000000000#64, 0#64) (f64Neg 0x3FF0000000000000#64, q) = (0#64, q) := by
  have hneg : f64IsFinite (f64Neg 0x3FF0000000000000#64) = true := by decide
  have hneg0 : f64IsZero (f64Neg 0x3FF0000000000000#64) = false := by decide
  have hzero (nan : RealWord) {x : RealWord} (hx : f64IsFinite x = true) : f64IsZero (f64Mul nan 0#64 x) = true :=
    f64Mul_zero_left nan (by decide) hx
  simp only [twiddleStep, binary64, f64Sub, f64Mul_one_left _ hneg, f64Mul_one_left _ hq, Prod.mk.injEq]
  constructor
  · rw [f64Add_zero_right _ hneg hneg0 (by rw [f64IsZero_neg, hzero _ hq]), f64Add_neg_self _ (by decide)]
  · rw [f64Add_comm _ _ q, f64Add_zero_right _ hq hq0 (hzero _ hneg), f64Add_zero_right _ hq hq0 (by decide)]

/-- Settles O55: the addition theorems of cosine and sine, and `twiddleStep_one_zero` at q = ±1.0. -/
theorem recurrenceIsARotation : Obligations.RecurrenceIsARotation := by
  refine ⟨fun A hA sgn stage => ⟨fun site φ => hA.twiddleStep_eq site sgn stage φ, fun W h0 hstep r => hA.twiddle_eq h0 hstep r⟩,
    fun draw site sgn => ?_⟩
  cases sgn
  case plus => exact twiddleStep_one_zero draw site (q := 0x3FF0000000000000#64) (by decide) (by decide)
  case minus => exact twiddleStep_one_zero draw site (q := f64Neg 0x3FF0000000000000#64) (by decide) (by decide)

end Sys2Proof.Machine

/-! The complex entries of a buffer: reading and writing a position, loops whose turns own positions, and the frame of a command
that works on one buffer (spec rules R13, R51, R53). -/

namespace Sys2Proof.Machine

variable {F : Type}

/-! ## Positions (rules R13, R51) -/

/-- Both words of position p written, the real part first. -/
def Bank.setPosition (d : Bank F) (p : Nat) (v : F × F) : Bank F :=
  (d.setData (2 * p + 1) v.1).setData (2 * p + 2) v.2

theorem Bank.position_setPosition (d : Bank F) (p q : Nat) (v : F × F) :
    (d.setPosition p v).position q = if q = p then v else d.position q := by
  have hre : 2 * q ≠ 2 * p + 1 := by omega
  have him : 2 * q + 2 ≠ 2 * p + 1 := by omega
  by_cases h : q = p <;> simp [Bank.position, Bank.setPosition, Bank.data_setData, hre, him, h]

/-- A physical word is the real or the imaginary part of its position. -/
theorem Bank.read_eq_position (d : Bank F) (a : Nat) :
    d.read a = if a % 2 = 0 then (d.position (a / 2)).1 else (d.position (a / 2)).2 := by
  split
  case isTrue h => exact congrArg d.read (by omega)
  case isFalse h => exact congrArg d.read (by omega)

/-- Two banks agree on some positions exactly when they agree on the words of these positions. -/
theorem Bank.forall_position_eq_iff (d e : Bank F) (own : Nat → Prop) :
    (∀ p, own p → e.position p = d.position p) ↔ ∀ a, own (a / 2) → e.read a = d.read a := by
  refine ⟨fun h a ha => ?_, fun h p hp => Prod.ext (h (2 * p) ?_) (h (2 * p + 1) ?_)⟩
  · rw [Bank.read_eq_position, h _ ha, ← Bank.read_eq_position]
  · rwa [Nat.mul_div_cancel_left p Nat.two_pos]
  · rwa [show (2 * p + 1) / 2 = p by omega]

/-- `Bank.foldl_read_of_own` for a turn that owns positions. -/
theorem Bank.foldl_position_of_own {β : Type} (f : Bank F → β → Bank F) (own : Nat → Prop) {l : List β} (hl : l.Nodup) {x : β}
    (hx : x ∈ l) (d : Bank F)
    (hself : ∀ e, (∀ p, own p → e.position p = d.position p) → ∀ p, own p → (f e x).position p = (f d x).position p)
    (hother : ∀ y ∈ l, y ≠ x → ∀ e p, own p → (f e y).position p = e.position p) {p : Nat} (hp : own p) :
    (l.foldl f d).position p = (f d x).position p := by
  simp only [Bank.forall_position_eq_iff] at hself hother
  exact (Bank.forall_position_eq_iff _ _ own).mpr
    (Bank.foldl_read_of_own f (fun a => own (a / 2)) x d hself l hl hx hother d fun _ _ => rfl) p hp

/-! ## The frame of a command on one buffer (rules R23, R53) -/

/-- The buffer of a command that has put `d` back, counted and drawn. -/
theorem bank_setBank_complete {m : Nat} (s : State) (b : Buf) {d : Bank RealWord} (h : Bank.WritesBelow m (s.bank b) d) (n : Nat) :
    ({ s.setBank b d with draws := n } : State).complete.bank b = d := by
  have hbank : ({ s.setBank b d with draws := n } : State).complete.bank b = (s.setBank b d).bank b := by cases b <;> rfl
  rw [hbank, State.setBank_bank_of_writesBelow s b h]

/-- A command that works on the active region of a buffer, whatever it draws, meets the frame. -/
theorem bufferFrame_setBank (s : State) (b : Buf) {d : Bank RealWord} (h : Bank.WritesBelow (2 * s.txLen) (s.bank b) d)
    (n : Nat) : BufferFrame b s ({ s.setBank b d with draws := n } : State).complete := by
  refine ⟨?_, ?_, fun a ha => ?_⟩
  · cases b <;> rfl
  · cases b <;> rfl
  · rw [bank_setBank_complete s b h, h.read ha]

theorem BufferFrame.kNat_eq {b : Buf} {s t : State} (h : BufferFrame b s t) : t.kNat = s.kNat := by
  simpa [State.kNat] using congrArg State.kNat h.rest

end Sys2Proof.Machine

/-! BITREV as a permutation of positions (spec rule R130). -/

namespace Sys2Proof.Machine

variable {F : Type}

/-- The pair {q, rev_K(q)} is swapped in the turn of its lower position, and in no other. -/
theorem bitrevAt_position {k p q : Nat} (hp : p < 2 ^ k) (hq : q < 2 ^ k) (d : Bank F) :
    (bitrevAt k d p).position q = if min q (rev k q) = p then d.position (rev k q) else d.position q := by
  have hpair : q = rev k p ↔ rev k q = p := ⟨fun h => h ▸ rev_rev hp, fun h => h ▸ (rev_rev hq).symm⟩
  unfold bitrevAt
  split
  case isTrue hlt =>
    have hswap : swapEntries d p (rev k p) =
        (d.setPosition p (d.position (rev k p))).setPosition (rev k p) (d.position p) := rfl
    rw [hswap, Bank.position_setPosition, Bank.position_setPosition]
    by_cases hupper : q = rev k p
    · rw [if_pos hupper, if_pos (by omega), hpair.mp hupper]
    · by_cases hlower : q = p
      · subst hlower
        rw [if_neg hupper, if_pos rfl, if_pos (by omega)]
      · rw [if_neg hupper, if_neg hlower, if_neg (by omega)]
  case isFalse hle =>
    split
    case isTrue hmin =>
      have hfix : rev k q = q := by
        by_cases hqp : q = p
        · subst hqp; omega
        · omega
      rw [hfix]
    case isFalse => rfl

/-- BITREV on positions: the turn that owns the pair of p does the one swap that touches it. -/
theorem bitrevBank_position {k p : Nat} (hp : p < 2 ^ k) (d : Bank F) :
    (bitrevBank k d).position p = d.position (rev k p) := by
  have hk : 0 < 2 ^ k := Nat.two_pow_pos k
  have hx : min p (rev k p) < 2 ^ k := min_lt_of_left_lt hp
  have howner : (bitrevBank k d).position p = (bitrevAt k d (min p (rev k p))).position p := by
    refine Bank.foldl_position_of_own (bitrevAt k) (fun q => q < 2 ^ k ∧ min q (rev k q) = min p (rev k p))
      (nodup_rangeStep Nat.one_pos) (mem_rangeTo.mpr (by omega)) d ?_ ?_ ⟨hp, rfl⟩
    · rintro e he q ⟨hq, hmin⟩
      rw [bitrevAt_position hx hq, bitrevAt_position hx hq, if_pos hmin, if_pos hmin]
      exact he _ ⟨rev_lt k q, by rw [rev_rev hq, min_comm, hmin]⟩
    · rintro y hy hne e q ⟨hq, hmin⟩
      rw [bitrevAt_position (by have := mem_rangeTo.mp hy; omega) hq, if_neg (hmin ▸ hne.symm)]
  rw [howner, bitrevAt_position hx hp, if_pos rfl]

/-- A second BITREV restores every word. -/
theorem bitrevBank_bitrevBank_read (k : Nat) (d : Bank F) (a : Nat) :
    (bitrevBank k (bitrevBank k d)).read a = d.read a := by
  by_cases ha : 2 * 2 ^ k ≤ a
  · rw [(bitrevBank_writesBelow k _).read ha, (bitrevBank_writesBelow k d).read ha]
  · have hp : a / 2 < 2 ^ k := by omega
    rw [Bank.read_eq_position, bitrevBank_position hp, bitrevBank_position (rev_lt k _), rev_rev hp, ← Bank.read_eq_position]

theorem exec_bitrev (b : Buf) (s : State) :
    ∃ t, exec (.bitrev b) s = .next t ∧ BufferFrame b s t ∧ t.bank b = bitrevBank s.kNat (s.bank b) :=
  have h := bitrevBank_writesBelow s.kNat (s.bank b)
  ⟨_, rfl, bufferFrame_setBank s b h _, bank_setBank_complete s b h _⟩

/-- Settles O38: the loop on positions, and the reversal as an involution. -/
theorem bitrevPermutesPositions : Obligations.BitrevPermutesPositions := by
  intro b s
  obtain ⟨t, ht, hframe, hbank⟩ := exec_bitrev b s
  obtain ⟨u, hu, -, hbank'⟩ := exec_bitrev b t
  refine ⟨t, ht, hframe, fun p hp => ?_, u, hu, fun a => ?_⟩
  · rw [hbank, bitrevBank_position hp]
  · rw [hbank', hframe.kNat_eq, hbank, bitrevBank_bitrevBank_read]

end Sys2Proof.Machine

/-! BFLY as stages on positions: each butterfly of a stage owns its two positions (spec rules R131, R138). -/

namespace Sys2Proof.Machine

variable {F : Type}

/-! ## The loops of a stage -/

theorem rangeStep_eq_map (a b s : Nat) : rangeStep a b s = (List.range ((b + s - a) / s)).map fun i => s * i + a := by
  unfold rangeStep
  generalize (b + s - a) / s = n
  induction n with
  | zero => rfl
  | succ n ih => rw [List.range'_concat, ih, List.range_succ, List.map_append, List.map_singleton, Nat.add_comm a]

/-- The r-th twiddle factor of a stage (rule R131). -/
def twiddle (A : Arith F) (sgn : Sgn) (stage : Nat) : Nat → F × F
  | 0 => (A.one, A.zero)
  | r + 1 => twiddleStep A [1, stage, 2 * r + 1] (twiddle A sgn stage r) (seeds A sgn stage)

/-- The columns of a stage of half-size h = 2^S, in order. -/
theorem columns_eq (S : Nat) : rangeStep 1 (2 ^ (S + 1) - 1) 2 = (List.range (2 ^ S)).map fun r => 2 * r + 1 := by
  rw [rangeStep_eq_map, show (2 ^ (S + 1) - 1 + 2 - 1) / 2 = 2 ^ S by rw [pow_succ]; omega]

/-- The upper words of a column, one per block. -/
theorem blocks_eq {k S r : Nat} (hS : S + 1 ≤ k) (hr : r < 2 ^ S) :
    rangeStep (2 * r + 1) (2 * 2 ^ k) (2 * 2 ^ (S + 1)) =
      (List.range (2 ^ (k - (S + 1)))).map fun c => 2 * (c * 2 ^ (S + 1) + r) + 1 := by
  have hcount : (2 * 2 ^ k + 2 * 2 ^ (S + 1) - (2 * r + 1)) / (2 * 2 ^ (S + 1)) = 2 ^ (k - (S + 1)) := by
    have hk : 2 ^ k = 2 ^ (S + 1) * 2 ^ (k - (S + 1)) := by rw [← pow_add, Nat.add_sub_cancel' hS]
    have hle : 2 * r + 1 < 2 * 2 ^ (S + 1) := by rw [pow_succ]; omega
    rw [hk, ← mul_assoc, Nat.add_sub_assoc hle.le, Nat.mul_add_div (by omega), Nat.div_eq_of_lt (by omega), Nat.add_zero]
  rw [rangeStep_eq_map, hcount]
  exact congrArg (List.map · _) (funext fun c => by ring)

/-- One turn of a stage: the butterfly of column r and block c. -/
def stageButterfly (A : Arith F) (sgn : Sgn) (stage : Nat) (d : Bank F) (x : Nat × Nat) : Bank F :=
  butterflyAt A stage (2 ^ stage) (twiddle A sgn stage x.1) d (2 * (x.2 * 2 ^ stage + x.1) + 1)

/-- The column loop carries the twiddle factors along. -/
theorem foldl_columnStep (A : Arith F) (n : Nat) (sgn : Sgn) (stage m : Nat) (d : Bank F) :
    (List.range m).foldl (fun st r => columnStep A n sgn stage st (2 * r + 1)) (d, (A.one, A.zero)) =
      ((List.range m).foldl (fun e r => columnBank A n stage (2 * r + 1) (twiddle A sgn stage r) e) d, twiddle A sgn stage m) := by
  induction m with
  | zero => rfl
  | succ m ih =>
    rw [List.range_succ, List.foldl_append, List.foldl_append, ih]
    rfl

/-- A stage is one loop over its butterflies. -/
theorem stageBank_eq_foldl (A : Arith F) {k S : Nat} (hS : S + 1 ≤ k) (sgn : Sgn) (d : Bank F) :
    stageBank A (2 * 2 ^ k) sgn d (S + 1) =
      (List.range (2 ^ S) ×ˢ List.range (2 ^ (k - (S + 1)))).foldl (stageButterfly A sgn (S + 1)) d := by
  have hproduct : List.range (2 ^ S) ×ˢ List.range (2 ^ (k - (S + 1))) =
      (List.range (2 ^ S)).flatMap fun r => (List.range (2 ^ (k - (S + 1)))).map (Prod.mk r) := rfl
  rw [stageBank, columns_eq, List.foldl_map, foldl_columnStep, hproduct, List.foldl_flatMap]
  refine List.foldl_ext _ _ d fun e r hr => ?_
  rw [columnBank, blocks_eq hS (List.mem_range.mp hr), List.foldl_map, List.foldl_map]
  rfl

/-! ## One butterfly on positions -/

theorem butterflyAt_position (A : Arith F) (stage h : Nat) (w : F × F) (d : Bank F) (u q : Nat) :
    (butterflyAt A stage (2 * h) w d (2 * u + 1)).position q =
      if q = u then (bf A [0, stage, 2 * u + 1] (d.position u) (d.position (u + h)) w).1
      else if q = u + h then (bf A [0, stage, 2 * u + 1] (d.position u) (d.position (u + h)) w).2
      else d.position q := by
  have hset : butterflyAt A stage (2 * h) w d (2 * u + 1) =
      (d.setPosition (u + h) (bf A [0, stage, 2 * u + 1] (d.position u) (d.position (u + h)) w).2).setPosition u
        (bf A [0, stage, 2 * u + 1] (d.position u) (d.position (u + h)) w).1 := by
    rw [butterflyAt, show 2 * u + 1 + 2 * h = 2 * (u + h) + 1 by ring]
    rfl
  rw [hset, Bank.position_setPosition, Bank.position_setPosition]

/-- The column and block of the one butterfly of a stage of half-size h that touches position q. -/
def butterflyOf (h q : Nat) : Nat × Nat := (q % h, q / (2 * h))

theorem butterflyOf_touched {h c r q : Nat} (hr : r < h) (hq : q = c * (2 * h) + r ∨ q = c * (2 * h) + r + h) :
    butterflyOf h q = (r, c) := by
  have hmod : (c * (2 * h) + r) % h = r := by
    rw [← mul_assoc, Nat.mul_add_mod_self_right, Nat.mod_eq_of_lt hr]
  have hdiv {t : Nat} (ht : t < 2 * h) : (c * (2 * h) + t) / (2 * h) = c := by
    rw [Nat.mul_comm c, Nat.mul_add_div (by omega), Nat.div_eq_of_lt ht, Nat.add_zero]
  rcases hq with rfl | rfl
  · rw [butterflyOf, hmod, hdiv (by omega)]
  · rw [butterflyOf, Nat.add_mod_right, hmod, Nat.add_assoc, hdiv (by omega)]

theorem stageButterfly_position (A : Arith F) (sgn : Sgn) (S : Nat) (d : Bank F) {r c u : Nat}
    (hu : u = c * 2 ^ (S + 1) + r) (q : Nat) :
    (stageButterfly A sgn (S + 1) d (r, c)).position q =
      if q = u then (bf A [0, S + 1, 2 * u + 1] (d.position u) (d.position (u + 2 ^ S)) (twiddle A sgn (S + 1) r)).1
      else if q = u + 2 ^ S then
        (bf A [0, S + 1, 2 * u + 1] (d.position u) (d.position (u + 2 ^ S)) (twiddle A sgn (S + 1) r)).2
      else d.position q := by
  rw [stageButterfly, ← hu, pow_succ', butterflyAt_position]

/-- A stage replaces the two entries of every butterfly by BF of the two and the column's twiddle factor (rule R131). -/
theorem stageBank_position (A : Arith F) {k S c r u : Nat} (hS : S + 1 ≤ k) (hc : c < 2 ^ (k - (S + 1))) (hr : r < 2 ^ S)
    (hu : u = c * 2 ^ (S + 1) + r) (sgn : Sgn) (d : Bank F) :
    ((stageBank A (2 * 2 ^ k) sgn d (S + 1)).position u, (stageBank A (2 * 2 ^ k) sgn d (S + 1)).position (u + 2 ^ S)) =
      bf A [0, S + 1, 2 * u + 1] (d.position u) (d.position (u + 2 ^ S)) (twiddle A sgn (S + 1) r) := by
  have howner {q : Nat} (hq : q = u ∨ q = u + 2 ^ S) : (stageBank A (2 * 2 ^ k) sgn d (S + 1)).position q =
      (stageButterfly A sgn (S + 1) d (r, c)).position q := by
    rw [stageBank_eq_foldl A hS]
    refine Bank.foldl_position_of_own _ (fun q => q = u ∨ q = u + 2 ^ S) (List.nodup_range.product List.nodup_range)
      (List.mem_product.mpr ⟨List.mem_range.mpr hr, List.mem_range.mpr hc⟩) d ?_ ?_ hq
    · intro e he q hq
      rw [stageButterfly_position A sgn S e hu, stageButterfly_position A sgn S d hu, he u (.inl rfl), he _ (.inr rfl), he q hq]
    · rintro ⟨r', c'⟩ hy hne e q hq
      have hr' : r' < 2 ^ S := List.mem_range.mp (List.mem_product.mp hy).1
      have hq' : ¬(q = c' * 2 ^ (S + 1) + r' ∨ q = c' * 2 ^ (S + 1) + r' + 2 ^ S) := fun h =>
        hne ((butterflyOf_touched hr' (pow_succ' 2 S ▸ h)).symm.trans (butterflyOf_touched hr (pow_succ' 2 S ▸ hu ▸ hq)))
      rw [stageButterfly_position A sgn S e rfl, if_neg fun h => hq' (.inl h), if_neg fun h => hq' (.inr h)]
  have hne : u + 2 ^ S ≠ u := (Nat.lt_add_of_pos_right (Nat.two_pow_pos S)).ne'
  rw [howner (.inl rfl), howner (.inr rfl), stageButterfly_position A sgn S d hu, stageButterfly_position A sgn S d hu,
    if_pos rfl, if_neg hne, if_pos rfl]

/-! ## BFLY (rule R131) -/

/-- The buffer after the first S stages of a transform of length 2^k. -/
def stagesBank (A : Arith F) (k : Nat) (sgn : Sgn) (d : Bank F) (S : Nat) : Bank F :=
  (rangeTo 1 S).foldl (stageBank A (2 * 2 ^ k) sgn) d

@[simp] theorem stagesBank_zero (A : Arith F) (k : Nat) (sgn : Sgn) (d : Bank F) : stagesBank A k sgn d 0 = d := rfl

theorem stagesBank_succ (A : Arith F) (k : Nat) (sgn : Sgn) (d : Bank F) (S : Nat) :
    stagesBank A k sgn d (S + 1) = stageBank A (2 * 2 ^ k) sgn (stagesBank A k sgn d S) (S + 1) := by
  have hrange : rangeTo 1 (S + 1) = rangeTo 1 S ++ [S + 1] := by
    simp only [rangeTo_eq_range', Nat.add_sub_cancel, List.range'_1_concat, Nat.add_comm 1]
  rw [stagesBank, hrange, List.foldl_append]
  rfl

theorem stagesBank_position (A : Arith F) {k S c r u : Nat} (hS : S + 1 ≤ k) (hc : c < 2 ^ (k - (S + 1))) (hr : r < 2 ^ S)
    (hu : u = c * 2 ^ (S + 1) + r) (sgn : Sgn) (d : Bank F) :
    ((stagesBank A k sgn d (S + 1)).position u, (stagesBank A k sgn d (S + 1)).position (u + 2 ^ S)) =
      bf A [0, S + 1, 2 * u + 1] ((stagesBank A k sgn d S).position u) ((stagesBank A k sgn d S).position (u + 2 ^ S))
        (twiddle A sgn (S + 1) r) := by
  rw [stagesBank_succ, stageBank_position A hS hc hr hu]

theorem bflyBank_eq_stagesBank (A : Arith F) (k : Nat) (sgn : Sgn) (d : Bank F) :
    bflyBank A k sgn d = stagesBank A k sgn d k := rfl

theorem exec_bfly (b : Buf) (sgn : Sgn) (s : State) :
    ∃ t, exec (.bfly b sgn) s = .next t ∧ BufferFrame b s t ∧ t.bank b = bflyBank (binary64 s.draws) s.kNat sgn (s.bank b) :=
  have h := bflyBank_writesBelow (binary64 s.draws) s.kNat sgn (s.bank b)
  ⟨_, rfl, bufferFrame_setBank s b h _, bank_setBank_complete s b h _⟩

/-- Settles O39: the entry sequences are the positions of the buffer after each stage. -/
theorem bflyRunsTheStages : Obligations.BflyRunsTheStages := by
  intro b sgn s
  obtain ⟨t, ht, hframe, hbank⟩ := exec_bfly b sgn s
  refine ⟨t, ht, hframe, fun S p => (stagesBank (binary64 s.draws) s.kNat sgn (s.bank b) S).position p,
    twiddle (binary64 s.draws) sgn, fun p _ => rfl, fun p _ => by rw [hbank, bflyBank_eq_stagesBank], fun S => rfl,
    fun S r => rfl, fun S h1 hS c hc r hr => ?_⟩
  obtain ⟨S, rfl⟩ : ∃ S', S = S' + 1 := ⟨S - 1, by omega⟩
  have hsite : 2 * r + 1 + c * (2 * 2 ^ (S + 1)) = 2 * (c * 2 ^ (S + 1) + r) + 1 := by ring
  rw [hsite]
  exact stagesBank_position _ hS hc hr rfl sgn _

end Sys2Proof.Machine

/-! The discrete Fourier transform as a sum over the powers of a root, and the roots the stages turn by (spec rules R111, R133,
R136). -/

namespace Sys2Proof.Machine

open Finset Complex

/-! ## Sums over the powers of a root -/

/-- The transform of length n with kernel ω^(pq). -/
def dftSum (ω : ℂ) (n : Nat) (x : Nat → ℂ) (q : Nat) : ℂ := ∑ p ∈ range n, x p * ω ^ (p * q)

theorem dftSum_congr {ω : ℂ} {n : Nat} {x y : Nat → ℂ} (h : ∀ p < n, x p = y p) (q : Nat) : dftSum ω n x q = dftSum ω n y q :=
  sum_congr rfl fun p hp => by rw [h p (mem_range.mp hp)]

theorem dftSum_add_period {ω : ℂ} {n : Nat} (h : ω ^ n = 1) (x : Nat → ℂ) (q : Nat) : dftSum ω n x (q + n) = dftSum ω n x q :=
  sum_congr rfl fun p _ => by rw [mul_add, pow_add, mul_comm p n, pow_mul ω n p, h, one_pow, mul_one]

/-- A transform of even length from those of the even and the odd entries. -/
theorem dftSum_even_odd (ω : ℂ) {m n : Nat} (hm : m = 2 * n) (x : Nat → ℂ) (q : Nat) :
    dftSum ω m x q = dftSum (ω ^ 2) n (fun p => x (2 * p)) q + ω ^ q * dftSum (ω ^ 2) n (fun p => x (2 * p + 1)) q := by
  subst hm
  simp only [dftSum]
  induction n with
  | zero => simp
  | succ n ih =>
    rw [Nat.mul_succ, sum_range_succ, sum_range_succ, ih, sum_range_succ, sum_range_succ]
    ring

/-- The upper half of the result: the root's n-th power is −1. -/
theorem dftSum_even_odd_add {ω : ℂ} {m n : Nat} (hm : m = 2 * n) (h : ω ^ n = -1) (x : Nat → ℂ) (q : Nat) :
    dftSum ω m x (q + n) =
      dftSum (ω ^ 2) n (fun p => x (2 * p)) q - ω ^ q * dftSum (ω ^ 2) n (fun p => x (2 * p + 1)) q := by
  have hperiod : (ω ^ 2) ^ n = 1 := by rw [pow_right_comm, h, neg_one_sq]
  rw [dftSum_even_odd ω hm, dftSum_add_period hperiod, dftSum_add_period hperiod, pow_add, h]
  ring

/-- The transform with the inverse root gives n times the entries back, since the other powers of a primitive root sum to 0. -/
theorem dftSum_inv_dftSum {ω : ℂ} {n : Nat} (hω : IsPrimitiveRoot ω n) (x : Nat → ℂ) {r : Nat} (hr : r < n) :
    dftSum ω⁻¹ n (dftSum ω n x) r = n * x r := by
  have hne : ω ≠ 0 := hω.ne_zero (by omega)
  have hcol (p : Nat) (hp : p < n) : ∑ q ∈ range n, ω ^ (p * q) * ω⁻¹ ^ (q * r) = if p = r then (n : ℂ) else 0 := by
    have hpow (q : Nat) : ω ^ (p * q) * ω⁻¹ ^ (q * r) = (ω ^ p / ω ^ r) ^ q := by
      rw [div_pow, ← pow_mul, ← pow_mul, inv_pow, mul_comm q r, div_eq_mul_inv]
    simp only [hpow]
    split
    case isTrue h => simp [h, hne]
    case isFalse h =>
      have hone : (ω ^ p / ω ^ r) ^ n = 1 := by
        rw [div_pow, pow_right_comm, hω.pow_eq_one, pow_right_comm, hω.pow_eq_one, one_pow, one_pow, div_one]
      have hz : ω ^ p / ω ^ r ≠ 1 := fun hz => h (hω.pow_inj hp hr ((div_eq_one_iff_eq (pow_ne_zero r hne)).mp hz))
      rw [geom_sum_eq hz, hone, sub_self, zero_div]
  calc dftSum ω⁻¹ n (dftSum ω n x) r
    _ = ∑ p ∈ range n, ∑ q ∈ range n, x p * (ω ^ (p * q) * ω⁻¹ ^ (q * r)) := by
      simp only [dftSum, sum_mul, mul_assoc]
      exact sum_comm
    _ = ∑ p ∈ range n, x p * if p = r then (n : ℂ) else 0 :=
      sum_congr rfl fun p hp => by rw [← mul_sum, hcol p (mem_range.mp hp)]
    _ = n * x r := by simp [hr, mul_comm]

/-! ## The roots of the stages (rule R111) -/

/-- The factor exp(i·θ) a stage turns its twiddle factor by. -/
noncomputable def stageRoot (sgn : Sgn) (stage : Nat) : ℂ := exp (stageAngle sgn stage * I)

theorem stageRoot_zero (sgn : Sgn) : stageRoot sgn 0 = 1 := by
  cases sgn <;> simp [stageRoot, stageAngle, sgnInt, exp_neg, exp_two_pi_mul_I]

theorem stageRoot_succ_sq (sgn : Sgn) (S : Nat) : stageRoot sgn (S + 1) ^ 2 = stageRoot sgn S := by
  rw [stageRoot, stageRoot, ← exp_nat_mul, stageAngle, stageAngle, pow_succ]
  congr 1
  push_cast
  field_simp

theorem stageRoot_pow_half (sgn : Sgn) (S : Nat) : stageRoot sgn (S + 1) ^ 2 ^ S = -1 := by
  have hangle : ((2 ^ S : Nat) : ℂ) * (stageAngle sgn (S + 1) * I) = sgnInt sgn * (Real.pi * I) := by
    rw [stageAngle, pow_succ]
    push_cast
    field_simp
  rw [stageRoot, ← exp_nat_mul, hangle]
  cases sgn <;> simp [sgnInt, exp_neg, exp_pi_mul_I]

theorem isPrimitiveRoot_stageRoot (sgn : Sgn) (k : Nat) : IsPrimitiveRoot (stageRoot sgn k) (2 ^ k) := by
  cases k with
  | zero => exact stageRoot_zero sgn ▸ IsPrimitiveRoot.one
  | succ S =>
    have hhalf := stageRoot_pow_half sgn S
    have horder : orderOf (stageRoot sgn (S + 1)) = 2 ^ (S + 1) :=
      orderOf_eq_prime_pow (by norm_num [hhalf]) (by rw [pow_succ, pow_mul, hhalf, neg_one_sq])
    exact horder ▸ IsPrimitiveRoot.orderOf _

theorem stageRoot_other {sgn sgn' : Sgn} (h : sgn ≠ sgn') (k : Nat) : stageRoot sgn' k = (stageRoot sgn k)⁻¹ := by
  have hneg : sgnInt sgn' = -sgnInt sgn := by
    cases sgn <;> cases sgn'
    case plus.minus | minus.plus => rfl
    case plus.plus | minus.minus => exact absurd rfl h
  rw [stageRoot, stageRoot, ← exp_neg, stageAngle, stageAngle, hneg]
  push_cast
  ring_nf

theorem isDft_iff (k : Nat) (sgn : Sgn) (x X : Nat → ℂ) :
    IsDft (2 ^ k) sgn x X ↔ ∀ q < 2 ^ k, X q = dftSum (stageRoot sgn k) (2 ^ k) x q := by
  have hkernel (p q : Nat) : exp ((sgnInt sgn : ℂ) * (2 * Real.pi * I * p * q / (2 ^ k : Nat))) = stageRoot sgn k ^ (p * q) := by
    rw [stageRoot, ← exp_nat_mul, stageAngle]
    congr 1
    push_cast
    ring
  simp only [IsDft, dftSum, hkernel]

end Sys2Proof.Machine

/-! The FFT engine under exact arithmetic: the transform and the round trip (spec rules R106, R107, R133, R136, R180). -/

namespace Sys2Proof.Machine

/-! ## The units on complex numbers (rules R106, R107) -/

/-- An entry as a complex number (rule R13). -/
def toComplex (v : ℝ × ℝ) : ℂ := ⟨v.1, v.2⟩

theorem Bank.entry_eq (d : Bank ℝ) (p : Nat) : d.entry p = toComplex (d.position p) := rfl

theorem IsExact.cm_eq {A : Arith ℝ} (hA : IsExact A) (site : Site) (a b c d : ℝ) :
    toComplex (cm A site a b c d) = toComplex (a, b) * toComplex (c, d) := by
  apply Complex.ext <;> simp [toComplex, cm, hA.fadd, hA.fsub, hA.fmul]

theorem IsExact.bf_upper {A : Arith ℝ} (hA : IsExact A) (site : Site) (u v w : ℝ × ℝ) :
    toComplex (bf A site u v w).1 = toComplex u + toComplex w * toComplex v := by
  rw [← hA.cm_eq site]
  apply Complex.ext <;> simp [toComplex, bf, hA.fadd]

theorem IsExact.bf_lower {A : Arith ℝ} (hA : IsExact A) (site : Site) (u v w : ℝ × ℝ) :
    toComplex (bf A site u v w).2 = toComplex u - toComplex w * toComplex v := by
  rw [← hA.cm_eq site]
  apply Complex.ext <;> simp [toComplex, bf, hA.fsub]

/-- The r-th twiddle factor of a stage is the r-th power of the stage's root. -/
theorem IsExact.twiddle_eq_pow {A : Arith ℝ} (hA : IsExact A) (sgn : Sgn) (stage r : Nat) :
    toComplex (twiddle A sgn stage r) = stageRoot sgn stage ^ r := by
  rw [hA.twiddle_eq (W := twiddle A sgn stage) rfl (fun r => ⟨_, rfl⟩), stageRoot, ← Complex.exp_nat_mul, ← mul_assoc,
    ← Complex.ofReal_natCast, ← Complex.ofReal_mul]
  exact Complex.ext (Complex.exp_ofReal_mul_I_re _).symm (Complex.exp_ofReal_mul_I_im _).symm

/-! ## The stages (rule R133) -/

theorem rev_succ_two_mul (k p : Nat) : rev (k + 1) (2 * p) = rev k p := by simp [rev]

theorem rev_succ_two_mul_add_one (k p : Nat) : rev (k + 1) (2 * p + 1) = 2 ^ k + rev k p := by
  simp [rev, Nat.add_mod, show (2 * p + 1) / 2 = p by omega]

/-- One butterfly of stage S + 1 on complex entries. -/
theorem IsExact.stagesBank_succ_entry {A : Arith ℝ} (hA : IsExact A) {k S c r u : Nat} (hS : S + 1 ≤ k)
    (hc : c < 2 ^ (k - (S + 1))) (hr : r < 2 ^ S) (hu : u = c * 2 ^ (S + 1) + r) (sgn : Sgn) (d : Bank ℝ) :
    (stagesBank A k sgn d (S + 1)).entry u = (stagesBank A k sgn d S).entry u +
        stageRoot sgn (S + 1) ^ r * (stagesBank A k sgn d S).entry (u + 2 ^ S) ∧
      (stagesBank A k sgn d (S + 1)).entry (u + 2 ^ S) = (stagesBank A k sgn d S).entry u -
        stageRoot sgn (S + 1) ^ r * (stagesBank A k sgn d S).entry (u + 2 ^ S) := by
  obtain ⟨hupper, hlower⟩ := Prod.ext_iff.mp (stagesBank_position A hS hc hr hu sgn d)
  simp only at hupper hlower
  simp only [Bank.entry_eq, hupper, hlower, hA.bf_upper, hA.bf_lower, hA.twiddle_eq_pow, and_self]

/-- After stage S every aligned block of 2^S positions holds the 2^S-point transform of the block's entries in bit-reversed
order. -/
theorem IsExact.stagesBank_entry {A : Arith ℝ} (hA : IsExact A) {k : Nat} (sgn : Sgn) (d : Bank ℝ) {S : Nat} (hS : S ≤ k)
    {c : Nat} (hc : c < 2 ^ (k - S)) {q : Nat} (hq : q < 2 ^ S) :
    (stagesBank A k sgn d S).entry (c * 2 ^ S + q) =
      dftSum (stageRoot sgn S) (2 ^ S) (fun p => d.entry (c * 2 ^ S + rev S p)) q := by
  induction S generalizing c q with
  | zero =>
    obtain rfl : q = 0 := Nat.lt_one_iff.mp hq
    simp [dftSum, rev]
  | succ S ih =>
    have hsplit : 2 ^ (k - S) = 2 * 2 ^ (k - (S + 1)) := by rw [← pow_succ', show k - (S + 1) + 1 = k - S by omega]
    have heven (t : Nat) : c * 2 ^ (S + 1) + t = 2 * c * 2 ^ S + t := by ring
    have hodd (t : Nat) : c * 2 ^ (S + 1) + t + 2 ^ S = (2 * c + 1) * 2 ^ S + t := by ring
    have hx (p : Nat) : c * 2 ^ (S + 1) + rev (S + 1) (2 * p) = 2 * c * 2 ^ S + rev S p := by
      rw [rev_succ_two_mul, heven]
    have hx' (p : Nat) : c * 2 ^ (S + 1) + rev (S + 1) (2 * p + 1) = (2 * c + 1) * 2 ^ S + rev S p := by
      rw [rev_succ_two_mul_add_one, ← hodd, Nat.add_comm (2 ^ S), Nat.add_assoc]
    obtain hlt | hge := Nat.lt_or_ge q (2 ^ S)
    · rw [(hA.stagesBank_succ_entry hS hc hlt rfl sgn d).1, hodd, heven, ih (by omega) (by omega) hlt, ih (by omega) (by omega) hlt,
        dftSum_even_odd _ (pow_succ' 2 S)]
      simp only [stageRoot_succ_sq, hx, hx']
    · obtain ⟨r, rfl⟩ := Nat.exists_eq_add_of_le' hge
      have hr : r < 2 ^ S := by rw [pow_succ'] at hq; omega
      rw [← Nat.add_assoc, (hA.stagesBank_succ_entry hS hc hr rfl sgn d).2, hodd, heven, ih (by omega) (by omega) hr,
        ih (by omega) (by omega) hr, dftSum_even_odd_add (pow_succ' 2 S) (stageRoot_pow_half sgn S)]
      simp only [stageRoot_succ_sq, hx, hx']

/-- FFT on complex entries: the bit-reversal undoes the order the stages expect. -/
theorem IsExact.fftBank_entry {A : Arith ℝ} (hA : IsExact A) (k : Nat) (sgn : Sgn) (d : Bank ℝ) {q : Nat} (hq : q < 2 ^ k) :
    (fftBank A k sgn d).entry q = dftSum (stageRoot sgn k) (2 ^ k) d.entry q := by
  have hblock := hA.stagesBank_entry sgn (bitrevBank k d) le_rfl (c := 0) (by positivity) hq
  have hrev (p : Nat) (hp : p < 2 ^ k) : (bitrevBank k d).entry (rev k p) = d.entry p := by
    rw [Bank.entry_eq, bitrevBank_position (rev_lt k p), rev_rev hp, Bank.entry_eq]
  simp only [Nat.zero_mul, Nat.zero_add] at hblock
  rw [fftBank, bflyBank_eq_stagesBank, hblock, dftSum_congr hrev]

/-- Settles O56: `IsExact.fftBank_entry`. -/
theorem fftComputesTheDft : Obligations.FftComputesTheDft := fun _ hA k sgn d =>
  (isDft_iff k sgn d.entry _).mpr fun _ hq => hA.fftBank_entry k sgn d hq

/-! ## The round trip (rules R136, R180) -/

/-- SCALE and NORM on words: word i is divided in turn i and in no other. -/
theorem divBank_data {F : Type} (A : Arith F) (k : Nat) (c : F) (d : Bank F) {i : Nat} (h1 : 1 ≤ i) (hi : i ≤ 2 * 2 ^ k) :
    (divBank A k c d).data i = A.fdiv [i] (d.data i) c := by
  have howner : (divBank A k c d).data i = (divWord A c d i).data i := by
    refine Bank.foldl_read_of_own (divWord A c) (· = i - 1) i d ?_ _ (nodup_rangeStep Nat.one_pos) (mem_rangeTo.mpr ⟨h1, hi⟩) ?_ d
      (fun _ _ => rfl) (i - 1) rfl
    · rintro e he _ rfl
      exact (Bank.data_setData_same _ _ _).trans ((congrArg (A.fdiv [i] · c) (he _ rfl)).trans (Bank.data_setData_same _ _ _).symm)
    · rintro j hj hne e _ rfl
      exact Bank.read_setData_ne _ _ (by have := mem_rangeTo.mp hj; omega)
  rw [howner, divWord, Bank.data_setData_same]

theorem IsExact.scaleBank_entry {A : Arith ℝ} (hA : IsExact A) (k : Nat) (d : Bank ℝ) {p : Nat} (hp : p < 2 ^ k) :
    (scaleBank A k d).entry p = d.entry p / (2 ^ k : Nat) := by
  have hword {i : Nat} (h1 : 1 ≤ i) (hi : i ≤ 2 * 2 ^ k) : (scaleBank A k d).data i = d.data i / (2 ^ k : Nat) := by
    rw [scaleBank, divBank_data A k _ d h1 hi, hA.fdiv, hA.i2f, Int.cast_natCast]
  apply Complex.ext
  · rw [Complex.div_natCast_re]
    exact hword (by omega) (by omega)
  · rw [Complex.div_natCast_im]
    exact hword (by omega) (by omega)

theorem IsExact.roundTrip_entry {A : Arith ℝ} (hA : IsExact A) (k : Nat) {sgn sgn' : Sgn} (h : sgn ≠ sgn') (d : Bank ℝ) {p : Nat}
    (hp : p < 2 ^ k) : (scaleBank A k (fftBank A k sgn' (fftBank A k sgn d))).entry p = d.entry p := by
  have hN : ((2 ^ k : Nat) : ℂ) ≠ 0 := Nat.cast_ne_zero.mpr (Nat.two_pow_pos k).ne'
  rw [hA.scaleBank_entry k _ hp, hA.fftBank_entry k sgn' _ hp, dftSum_congr fun q hq => hA.fftBank_entry k sgn d hq,
    stageRoot_other h, dftSum_inv_dftSum (isPrimitiveRoot_stageRoot sgn k) d.entry hp, mul_div_cancel_left₀ _ hN]

/-- Settles O57: the entries come back, and each word is the real or the imaginary part of one. -/
theorem roundTripRestoresTheBuffer : Obligations.RoundTripRestoresTheBuffer := by
  intro A hA k sgn sgn' h d i h1 hi
  have hentry := hA.roundTrip_entry k h d (p := (i - 1) / 2) (by omega)
  obtain hre | him : i = 2 * ((i - 1) / 2) + 1 ∨ i = 2 * ((i - 1) / 2) + 2 := by omega
  · rw [hre]
    exact congrArg Complex.re hentry
  · rw [him]
    exact congrArg Complex.im hentry

end Sys2Proof.Machine

/-! The signal preparer: the length registers' setters (spec rules R150, R151, R153), the least transform length (R152), and PREP
on positions (R154, R155). -/

namespace Sys2Proof.Machine

/-! ## Setting a register from an immediate (rules R150, R151, R153) -/

/-- NMAX fits the length registers. -/
theorem State.nmax_lt (s : State) : s.nmax < 2 ^ 26 := Nat.pow_lt_pow_right Nat.one_lt_two s.kmax.isLt

/-- Settles O30: the check against NMAX, which also keeps the immediate whole in the register. -/
theorem setldSetsTheDryLength : Obligations.SetldSetsTheDryLength := fun s imm =>
  ⟨fun h => ⟨BitVec.ofNat 26 imm, Nat.mod_eq_of_lt (h.trans_lt s.nmax_lt), if_pos h⟩, fun h => if_neg h.not_ge⟩

/-- Settles O31: as O30, for the other length register. -/
theorem setliSetsTheImpulseLength : Obligations.SetliSetsTheImpulseLength := fun s imm =>
  ⟨fun h => ⟨BitVec.ofNat 26 imm, Nat.mod_eq_of_lt (h.trans_lt s.nmax_lt), if_pos h⟩, fun h => if_neg h.not_ge⟩

/-- KMAX fits the register K. -/
theorem State.kmax_lt (s : State) : s.kmax.val < 2 ^ 5 := s.kmax.isLt.trans (by decide)

/-- Settles O32: the check against KMAX, which also keeps the immediate whole in the register. -/
theorem setkSetsTheTransformLength : Obligations.SetkSetsTheTransformLength := fun s imm =>
  ⟨fun h => ⟨BitVec.ofNat 5 imm, Nat.mod_eq_of_lt (h.trans_lt s.kmax_lt), if_pos h⟩, fun h => if_neg h.not_ge⟩

/-! ## The least transform length (rule R152) -/

/-- `leastPow` is the least exponent: it is below exactly those whose power reaches the length. -/
theorem leastPow_le_iff (len j : Nat) : leastPow len ≤ j ↔ len ≤ 2 ^ j := by
  have hj : 0 < 2 ^ j := Nat.two_pow_pos j
  unfold leastPow
  split
  case isTrue h => exact iff_of_true j.zero_le (by omega)
  case isFalse h =>
    rw [Nat.succ_le_iff, Nat.log2_lt (by omega)]
    omega

theorem le_two_pow_leastPow (len : Nat) : len ≤ 2 ^ leastPow len := (leastPow_le_iff len _).mp le_rfl

theorem State.lensPositive_iff (s : State) : s.lensPositive = true ↔ 1 ≤ s.ld.toNat ∧ 1 ≤ s.li.toNat := by
  simp [State.lensPositive]

/-- Settles O33: the check of `leastPow` against KMAX is the check of L against NMAX. -/
theorem setnChoosesTheLeastLength : Obligations.SetnChoosesTheLeastLength := by
  intro s
  refine ⟨fun h => if_neg (by rw [s.lensPositive_iff]; omega), fun hld hli => ?_⟩
  have hpos : s.lensPositive = true := s.lensPositive_iff.mpr ⟨hld, hli⟩
  refine ⟨fun hfits => ?_, fun hlong => (if_pos hpos).trans (if_neg ((leastPow_le_iff _ _).not.mpr hlong.not_ge))⟩
  have hk : leastPow s.convLen ≤ s.kmax.val := (leastPow_le_iff _ _).mpr hfits
  have hv : (BitVec.ofNat 5 (leastPow s.convLen)).toNat = leastPow s.convLen :=
    Nat.mod_eq_of_lt (hk.trans_lt s.kmax_lt)
  refine ⟨BitVec.ofNat 5 (leastPow s.convLen), ?_, fun j hj => ?_, (if_pos hpos).trans (if_pos hk)⟩
  · rw [hv]
    exact le_two_pow_leastPow s.convLen
  · rw [hv]
    exact (leastPow_le_iff _ _).mpr hj

/-! ## PREP on positions (rules R154, R155) -/

variable {F : Type}

/-- A loop that writes whole positions, each a value of its own. -/
theorem Bank.foldl_setPosition_position (v : Nat → F × F) (l : List Nat) (d : Bank F) (p : Nat) :
    (l.foldl (fun e k => e.setPosition k (v k)) d).position p = if p ∈ l then v p else d.position p := by
  induction l generalizing d with
  | nil => rfl
  | cons k l ih =>
    rw [List.foldl_cons, ih, Bank.position_setPosition]
    by_cases hl : p ∈ l
    · rw [if_pos hl, if_pos (List.mem_cons_of_mem k hl)]
    · rw [if_neg hl]
      by_cases hk : p = k
      · subst hk
        rw [if_pos rfl, if_pos List.mem_cons_self]
      · rw [if_neg hk, if_neg (by simp [hk, hl])]

/-- The two loops of PREP, position by position. -/
theorem prepBank_position (A : Arith F) (k len : Nat) (src : Bank Sample) (d : Bank F) (p : Nat) :
    (prepBank A k len src d).position p =
      if len ≤ p ∧ p < 2 ^ k then (A.zero, A.zero)
      else if p < len then (convertSample A p (src.read p), A.zero) else d.position p := by
  have hpad : p ∈ List.range' len (2 ^ k - len) ↔ len ≤ p ∧ p < 2 ^ k := by
    rw [List.mem_range'_1]
    omega
  calc (prepBank A k len src d).position p
    _ = if p ∈ List.range' len (2 ^ k - len) then (A.zero, A.zero)
        else ((List.range len).foldl (placeSample A src) d).position p :=
      Bank.foldl_setPosition_position (fun _ => (A.zero, A.zero)) _ _ p
    _ = if p ∈ List.range' len (2 ^ k - len) then (A.zero, A.zero)
        else if p ∈ List.range len then (convertSample A p (src.read p), A.zero) else d.position p := by
      rw [← Bank.foldl_setPosition_position fun q => (convertSample A q (src.read q), A.zero)]
      rfl
    _ = _ := by simp only [hpad, List.mem_range]

theorem exec_prep {b : Buf} {src : Src} {s : State} (h : s.srcLen src ≤ s.txLen) :
    ∃ t, exec (.prep b src) s = .next t ∧ BufferFrame b s t ∧
      t.bank b = prepBank (binary64 s.draws) s.kNat (s.srcLen src) (s.samples src) (s.bank b) :=
  have hw := prepBank_writesBelow (binary64 s.draws) h (s.samples src) (s.bank b)
  ⟨_, if_pos h, bufferFrame_setBank s b hw (s.setBank b _).draws, bank_setBank_complete s b hw _⟩

/-- Settles O34: the frame from what PREP can write, the contents from its two loops. -/
theorem prepConvertsAndPads : Obligations.PrepConvertsAndPads := by
  intro b src s
  refine ⟨fun h => ?_, fun h => if_neg h.not_ge⟩
  obtain ⟨t, ht, hframe, hbank⟩ := exec_prep (b := b) h
  refine ⟨t, ht, hframe, fun k hk => ?_, fun k hlen hk => ?_⟩
  · rw [hbank, prepBank_position, if_neg (by omega), if_pos hk]
    rfl
  · rw [hbank, prepBank_position, if_pos ⟨hlen, hk⟩]
    rfl

end Sys2Proof.Machine

/-! CMUL on positions: the turn of entry e owns position e − 1 (spec rule R170). -/

namespace Sys2Proof.Machine

variable {F : Type}

/-- The turn of entry p + 1 replaces position p by its product with the other buffer's position p. -/
theorem cmulAt_succ (A : Arith F) (o d : Bank F) (p : Nat) :
    cmulAt A o d (p + 1) =
      d.setPosition p (cm A [p + 1] (d.position p).1 (d.position p).2 (o.position p).1 (o.position p).2) := rfl

/-- CMUL on positions: position p is multiplied in the turn of entry p + 1 and in no other. -/
theorem cmulBank_position (A : Arith F) {k p : Nat} (hp : p < 2 ^ k) (o d : Bank F) :
    (cmulBank A k o d).position p =
      cm A [p + 1] (d.position p).1 (d.position p).2 (o.position p).1 (o.position p).2 := by
  have howner : (cmulBank A k o d).position p = (cmulAt A o d (p + 1)).position p := by
    refine Bank.foldl_position_of_own (cmulAt A o) (· = p) (nodup_rangeStep Nat.one_pos) (mem_rangeTo.mpr (by omega)) d ?_ ?_ rfl
    · rintro e he _ rfl
      rw [cmulAt_succ, cmulAt_succ, Bank.position_setPosition, Bank.position_setPosition, he _ rfl]
    · rintro y hy hne e _ rfl
      obtain ⟨q, rfl⟩ := Nat.exists_eq_add_of_le' (mem_rangeTo.mp hy).1
      rw [cmulAt_succ, Bank.position_setPosition, if_neg (by omega)]
  rw [howner, cmulAt_succ, Bank.position_setPosition, if_pos rfl]

theorem exec_cmul (b : Buf) (s : State) :
    ∃ t, exec (.cmul b) s = .next t ∧ BufferFrame b s t ∧
      t.bank b = cmulBank (binary64 s.draws) s.kNat (s.bank (otherBuf b)) (s.bank b) :=
  have h := cmulBank_writesBelow (binary64 s.draws) s.kNat (s.bank (otherBuf b)) (s.bank b)
  ⟨_, rfl, bufferFrame_setBank s b h _, bank_setBank_complete s b h _⟩

/-- Settles O42: the frame from what CMUL can write, the contents from its loop on positions. -/
theorem cmulMultipliesEntrywise : Obligations.CmulMultipliesEntrywise := by
  intro b s
  obtain ⟨t, ht, hframe, hbank⟩ := exec_cmul b s
  refine ⟨t, ht, hframe, fun e h1 he => ?_⟩
  obtain ⟨p, rfl⟩ := Nat.exists_eq_add_of_le' h1
  rw [hbank]
  exact cmulBank_position _ he _ _

end Sys2Proof.Machine

/-! The convolution theorem, and the pipeline from the transforms to SCALE under exact arithmetic (spec rule R172). -/

namespace Sys2Proof.Machine

open Finset

/-- The circular convolution of length n (rule R172). -/
def circularConv (n : Nat) (x h : Nat → ℂ) (m : Nat) : ℂ := ∑ p ∈ range n, x p * h ((m + (n - p)) % n)

theorem isCircularConv_iff (n : Nat) (x h y : Nat → ℂ) : IsCircularConv n x h y ↔ ∀ m < n, y m = circularConv n x h m := Iff.rfl

/-- A cyclic shift runs through all residues once. -/
theorem sum_range_add_mod (f : Nat → ℂ) (n c : Nat) : ∑ m ∈ range n, f ((m + c) % n) = ∑ j ∈ range n, f j := by
  calc ∑ m ∈ range n, f ((m + c) % n)
    _ = ∑ j ∈ Ico c (c + n), f (j % n) := by
      rw [sum_Ico_eq_sum_range, Nat.add_sub_cancel_left]
      simp only [Nat.add_comm c]
    _ = ∑ j ∈ (Ico c (c + n)).image (· % n), f j := (sum_image (Nat.mod_injOn_Ico c n)).symm
    _ = ∑ j ∈ range n, f j := by rw [Nat.image_Ico_mod]

/-- Shifting a sequence cyclically by p multiplies its transform by ω^(pq). -/
theorem dftSum_shift {ω : ℂ} {n p : Nat} (hω : ω ^ n = 1) (hp : p ≤ n) (h : Nat → ℂ) (q : Nat) :
    dftSum ω n (fun m => h ((m + (n - p)) % n)) q = ω ^ (p * q) * dftSum ω n h q := by
  have hpow (m : Nat) : ω ^ (m * q) = ω ^ (p * q) * ω ^ ((m + (n - p)) % n * q) := by
    have hsum : p + (m + (n - p)) = m + n := by omega
    rw [pow_mul, pow_mul, pow_mul, ← pow_eq_pow_mod _ hω, ← mul_pow, ← pow_add, hsum, pow_add, hω, mul_one]
  calc dftSum ω n (fun m => h ((m + (n - p)) % n)) q
    _ = ω ^ (p * q) * ∑ m ∈ range n, h ((m + (n - p)) % n) * ω ^ ((m + (n - p)) % n * q) := by
      rw [dftSum, mul_sum]
      exact sum_congr rfl fun m _ => by rw [hpow m, mul_left_comm]
    _ = ω ^ (p * q) * dftSum ω n h q := by rw [sum_range_add_mod fun j => h j * ω ^ (j * q), dftSum]

/-- The convolution theorem: the transform of a circular convolution is the product of the transforms. -/
theorem dftSum_circularConv {ω : ℂ} {n : Nat} (hω : ω ^ n = 1) (x h : Nat → ℂ) (q : Nat) :
    dftSum ω n (circularConv n x h) q = dftSum ω n x q * dftSum ω n h q := by
  calc dftSum ω n (circularConv n x h) q
    _ = ∑ p ∈ range n, x p * dftSum ω n (fun m => h ((m + (n - p)) % n)) q := by
      simp only [dftSum, circularConv, sum_mul, mul_sum, mul_assoc]
      exact sum_comm
    _ = ∑ p ∈ range n, x p * ω ^ (p * q) * dftSum ω n h q :=
      sum_congr rfl fun p hp => by rw [dftSum_shift hω (mem_range.mp hp).le, mul_assoc]
    _ = dftSum ω n x q * dftSum ω n h q := (sum_mul _ _ _).symm

/-- CMUL on complex entries. -/
theorem IsExact.cmulBank_entry {A : Arith ℝ} (hA : IsExact A) {k p : Nat} (hp : p < 2 ^ k) (o d : Bank ℝ) :
    (cmulBank A k o d).entry p = d.entry p * o.entry p := by
  rw [Bank.entry_eq, cmulBank_position A hp, hA.cm_eq, Bank.entry_eq, Bank.entry_eq]

/-- The product of the transforms is the transform of the circular convolution, which the inverse transform and SCALE recover. -/
theorem IsExact.pipeline_entry {A : Arith ℝ} (hA : IsExact A) (k : Nat) {sgn sgn' : Sgn} (hsgn : sgn ≠ sgn') (x h : Bank ℝ)
    {m : Nat} (hm : m < 2 ^ k) :
    (scaleBank A k (fftBank A k sgn' (cmulBank A k (fftBank A k sgn h) (fftBank A k sgn x)))).entry m =
      circularConv (2 ^ k) x.entry h.entry m := by
  have hN : ((2 ^ k : Nat) : ℂ) ≠ 0 := Nat.cast_ne_zero.mpr (Nat.two_pow_pos k).ne'
  have hroot := isPrimitiveRoot_stageRoot sgn k
  have hproduct (q : Nat) (hq : q < 2 ^ k) : (cmulBank A k (fftBank A k sgn h) (fftBank A k sgn x)).entry q =
      dftSum (stageRoot sgn k) (2 ^ k) (circularConv (2 ^ k) x.entry h.entry) q := by
    rw [hA.cmulBank_entry hq, hA.fftBank_entry k sgn x hq, hA.fftBank_entry k sgn h hq, dftSum_circularConv hroot.pow_eq_one]
  rw [hA.scaleBank_entry k _ hm, hA.fftBank_entry k sgn' _ hm, dftSum_congr hproduct, stageRoot_other hsgn,
    dftSum_inv_dftSum hroot _ hm, mul_div_cancel_left₀ _ hN]

/-- Settles O58: `IsExact.pipeline_entry`. -/
theorem pipelineComputesCircularConvolution : Obligations.PipelineComputesCircularConvolution :=
  fun _ hA k _ _ hsgn x h => (isCircularConv_iff _ _ _ _).mpr fun _ hm => hA.pipeline_entry k hsgn x h hm

end Sys2Proof.Machine

/-! The normalizer and renderer: SCALE and NORM word by word (spec rules R180, R182), the PEAK scan (R181), and RENDER sample by
sample (R183). -/

namespace Sys2Proof.Machine

variable {F : Type}

/-! ## SCALE and NORM (rules R180, R182) -/

/-- A command that divides the active region of its buffer by q and counts meets the frame, and divides every word. -/
theorem divBank_complete (b : Buf) (s : State) (q : RealWord) :
    let t := (s.setBank b (divBank (binary64 s.draws) s.kNat q (s.bank b))).drawn.complete
    BufferFrame b s t ∧
      ∀ i, 1 ≤ i → i ≤ 2 * s.txLen → (t.bank b).data i = (binary64 s.draws).fdiv [i] ((s.bank b).data i) q := by
  have hw := divBank_writesBelow (binary64 s.draws) s.kNat q (s.bank b)
  refine ⟨bufferFrame_setBank s b hw _, fun i h1 hi => ?_⟩
  rw [← divBank_data (binary64 s.draws) s.kNat q (s.bank b) h1 hi]
  exact congrArg (Bank.data · i) (bank_setBank_complete s b hw _)

theorem exec_norm_of_zero (b : Buf) {s : State} (h : f64IsZero s.peak = true) : exec (.norm b) s = .next s.complete := if_pos h

theorem exec_norm_of_nonzero (b : Buf) {s : State} (h : f64IsZero s.peak = false) :
    exec (.norm b) s = .next (s.setBank b (divBank (binary64 s.draws) s.kNat s.peak (s.bank b))).drawn.complete := by
  have hguard : ¬ f64IsZero s.peak = true := ne_true_of_eq_false h
  have hbank : normBank (binary64 s.draws) s.kNat s.peak (s.bank b) = divBank (binary64 s.draws) s.kNat s.peak (s.bank b) :=
    if_neg hguard
  rw [← hbank]
  exact if_neg hguard

/-- Settles O43: SCALE is the division of `divBank_complete` with q = N. -/
theorem scaleDividesByN : Obligations.ScaleDividesByN := fun b s => ⟨_, rfl, divBank_complete b s _⟩

/-- Settles O45: NORM is the division of `divBank_complete` with q = PEAK, behind the zero-peak guard. -/
theorem normDividesByPeak : Obligations.NormDividesByPeak := fun b s =>
  ⟨exec_norm_of_zero b, fun h => ⟨_, exec_norm_of_nonzero b h, divBank_complete b s s.peak⟩⟩

/-! ## The PEAK scan (rule R181) -/

theorem f64Gt_eq_true_iff (x y : RealWord) :
    f64Gt x y = true ↔ f64IsNaN x = false ∧ f64IsNaN y = false ∧ f64Int y < f64Int x := by
  simp [f64Gt, and_assoc]

theorem f64Gt_irrefl (x : RealWord) : f64Gt x x = false := by simp [f64Gt]

/-- What is not greater than y is not greater than a number above y. -/
theorem f64Gt_eq_false_of_f64Gt {x y z : RealWord} (hxy : f64Gt x y = false) (hzy : f64Gt z y = true) : f64Gt x z = false := by
  obtain ⟨-, hy, hlt⟩ := (f64Gt_eq_true_iff z y).mp hzy
  rw [Bool.eq_false_iff, ne_eq, f64Gt_eq_true_iff] at hxy ⊢
  exact fun ⟨hx, _, hgt⟩ => hxy ⟨hx, hy, hlt.trans hgt⟩

/-- `r` is the largest absolute real part of the entries `l`, or the +0.0 the scan begins with. -/
structure IsPeak (d : Bank RealWord) (l : List Nat) (r : RealWord) : Prop where
  attained : r = 0x0000000000000000#64 ∨ ∃ e ∈ l, r = f64Abs (d.data (2 * e - 1))
  number : f64IsNaN r = false
  bound : ∀ e ∈ l, f64Gt (f64Abs (d.data (2 * e - 1))) r = false

theorem isPeak_nil (d : Bank RealWord) : IsPeak d [] 0x0000000000000000#64 :=
  ⟨.inl rfl, by decide, fun _ h => absurd h List.not_mem_nil⟩

theorem IsPeak.sign {d : Bank RealWord} {l : List Nat} {r : RealWord} (h : IsPeak d l r) : f64Sign r = false := by
  obtain rfl | ⟨e, -, rfl⟩ := h.attained
  · decide
  · exact f64Sign_abs _

/-- One turn of the scan: the entry replaces the peak so far exactly when it is greater. -/
theorem IsPeak.snoc {d : Bank RealWord} {l : List Nat} {r : RealWord} (h : IsPeak d l r) (draw e : Nat) :
    IsPeak d (l ++ [e]) (peakAt (binary64 draw) d r e) := by
  have hturn : peakAt (binary64 draw) d r e =
      if f64Gt (f64Abs (d.data (2 * e - 1))) r then f64Abs (d.data (2 * e - 1)) else r := rfl
  rw [hturn]
  split
  case isTrue hgt =>
    obtain ⟨hnum, -, -⟩ := (f64Gt_eq_true_iff _ r).mp hgt
    refine ⟨.inr ⟨e, List.mem_append_right l List.mem_cons_self, rfl⟩, hnum, fun c hc => ?_⟩
    obtain hc | hc := List.mem_append.mp hc
    · exact f64Gt_eq_false_of_f64Gt (h.bound c hc) hgt
    · rw [List.mem_singleton.mp hc, f64Gt_irrefl]
  case isFalse hle =>
    refine ⟨h.attained.imp_right fun ⟨c, hc, hr⟩ => ⟨c, List.mem_append_left _ hc, hr⟩, h.number, fun c hc => ?_⟩
    obtain hc | hc := List.mem_append.mp hc
    · exact h.bound c hc
    · exact List.mem_singleton.mp hc ▸ Bool.eq_false_iff.mpr hle

theorem isPeak_peakBank (draw k : Nat) (d : Bank RealWord) : IsPeak d (rangeTo 1 (2 ^ k)) (peakBank (binary64 draw) k d) := by
  unfold peakBank
  induction rangeTo 1 (2 ^ k) using List.reverseRecOn with
  | nil => exact isPeak_nil d
  | append_singleton l e ih =>
    rw [List.foldl_append]
    exact ih.snoc draw e

/-- Whatever PEAK finds, it writes its two registers and counts (stated of any two values, so that no scan is unfolded). -/
theorem State.setPeak_setPkz_frame (s : State) (pk : RealWord) (z : Bool) :
    ({ ((s.setPeak pk).setPkz z).complete with peak := s.peak, pkz := s.pkz, cmdcnt := s.cmdcnt } : State) = s := by
  cases s; rfl

/-- Settles O44: the scan finds the peak of the entries 1..N, and nothing but the two registers is written. -/
theorem peakFindsTheLargestRealPart : Obligations.PeakFindsTheLargestRealPart := by
  intro b s
  have hpeak := isPeak_peakBank s.draws s.kNat (s.bank b)
  refine ⟨_, rfl, s.setPeak_setPkz_frame _ _, rfl, fun e h1 he => hpeak.bound e (mem_rangeTo.mpr ⟨h1, he⟩), ?_, hpeak.number,
    hpeak.sign, rfl⟩
  refine hpeak.attained.imp_right fun ⟨e, he, hr⟩ => ?_
  obtain ⟨h1, hN⟩ := mem_rangeTo.mp he
  exact ⟨e, h1, hN, hr⟩

/-! ## RENDER sample by sample (rule R183) -/

theorem encodeSample_fst_of_f2i {A : Arith F} {k : Nat} {v : F} {t : Int} (free : Nat → Sample)
    (h : A.f2i (A.fmul [k] v A.c32768) = some t) : (encodeSample A free k v).1 = BitVec.ofInt 16 t := by
  simp [encodeSample, h]

/-- The overflow of a sample: its product is not finite or truncates outside the range. -/
theorem encodeSample_snd_iff (A : Arith F) (free : Nat → Sample) (k : Nat) (v : F) :
    (encodeSample A free k v).2 = true ↔ ∀ t : Int, A.f2i (A.fmul [k] v A.c32768) = some t → t < -32768 ∨ 32767 < t := by
  unfold encodeSample
  cases A.f2i (A.fmul [k] v A.c32768) with
  | none => simp
  | some t => simp [sampleOverflows]

theorem renderBank_succ (A : Arith F) (free : Nat → Sample) (len : Nat) (d : Bank F) (o : Bank Sample) :
    renderBank A free (len + 1) d o = renderAt A free d (renderBank A free len d o) len := by
  simp [renderBank, List.range_succ]

/-- OMEM after RENDER: word k < len is written in turn k and in no other. -/
theorem renderBank_read (A : Arith F) (free : Nat → Sample) {len k : Nat} (hk : k < len) (d : Bank F) (o : Bank Sample) :
    (renderBank A free len d o).1.read k = (encodeSample A free k (d.position k).1).1 := by
  induction len with
  | zero => exact absurd hk k.not_lt_zero
  | succ len ih =>
    rw [renderBank_succ, renderAt, Bank.read_write]
    split
    case isTrue h => rw [h]; rfl
    case isFalse h => exact ih (by omega)

/-- OVF after RENDER. -/
theorem renderBank_overflow_iff (A : Arith F) (free : Nat → Sample) (len : Nat) (d : Bank F) (o : Bank Sample) :
    (renderBank A free len d o).2 = true ↔ ∃ k < len, (encodeSample A free k (d.position k).1).2 = true := by
  induction len with
  | zero => simp [renderBank]
  | succ len ih =>
    rw [renderBank_succ, renderAt, Bool.or_eq_true, ih, Nat.exists_lt_succ_right]
    rfl

/-- Whatever RENDER computes, it writes OMEM, OVF and OLEN, draws and counts (stated of any values, so that no loop is
unfolded). -/
theorem State.setOutput_setOvf_setOlen_frame (s : State) (o : Bank Sample) (v : Bool) (n : Nat) :
    ({ (((s.setOutput o).setOvf v).setOlen n).drawn.complete with
      omem := s.omem, ovf := s.ovf, olen := s.olen, cmdcnt := s.cmdcnt, draws := s.draws } : State) = s := by
  cases s; rfl

theorem exec_render (b : Buf) {s : State} (hpos : s.lensPositive = true) (hfits : s.convLen ≤ s.txLen) :
    exec (.render b) s = .next (renderInto b s) := (if_pos hpos).trans (if_pos hfits)

theorem renderInto_output (b : Buf) (s : State) : (renderInto b s).output =
    (renderBank (binary64 s.draws) (Config.freeSample s.draws) s.convLen (s.bank b) s.output).1 := by
  rw [renderInto, State.complete_output, State.drawn_output, State.setOlen_output, State.setOvf_output]
  exact s.setOutput_output_of_writesBelow (renderBank_writesBelow _ _ _ _ _)

theorem renderInto_ovf (b : Buf) (s : State) : (renderInto b s).ovf =
    (renderBank (binary64 s.draws) (Config.freeSample s.draws) s.convLen (s.bank b) s.output).2 := by
  rw [renderInto, State.complete_ovf, State.drawn_ovf, State.setOlen_ovf, State.setOvf_ovf]

/-- The convolution length fits OLEN when it fits the transform length. -/
theorem State.convLen_lt {s : State} (hfits : s.convLen ≤ s.txLen) (hk : s.kNat ≤ s.kmax.val) : s.convLen < 2 ^ 26 :=
  (hfits.trans (Nat.pow_le_pow_right Nat.two_pos hk)).trans_lt s.nmax_lt

/-- Settles O46: the two checks, then the loop's words and flag, each from its own sample. -/
theorem renderEncodesTheSamples : Obligations.RenderEncodesTheSamples := by
  intro b s
  refine ⟨fun h => if_neg (by rw [s.lensPositive_iff]; omega), fun hld hli hlong => ?_, fun hld hli hfits => ?_⟩
  · exact (if_pos (s.lensPositive_iff.mpr ⟨hld, hli⟩)).trans (if_neg hlong.not_ge)
  have hnext := exec_render b (s.lensPositive_iff.mpr ⟨hld, hli⟩) hfits
  refine ⟨renderInto b s, hnext, s.setOutput_setOvf_setOlen_frame _ _ _, rfl, rfl,
    fun hk => Nat.mod_eq_of_lt (State.convLen_lt hfits hk), fun k hk v hv => ?_, ?_, fun k hk => ?_⟩
  · rw [renderInto_output, renderBank_read _ _ hk]
    exact encodeSample_fst_of_f2i _ hv
  · rw [renderInto_ovf, renderBank_overflow_iff]
    simp only [encodeSample_snd_iff]
    rfl
  · rw [renderInto_output, (renderBank_writesBelow _ _ _ _ _).read hk]

end Sys2Proof.Machine

/-! The system commands NOP and HALT (spec rules R200, R201), and the command port of a stopped engine (R242). -/

namespace Sys2Proof.Machine

theorem exec_nop (s : State) : exec .nop s = .next s.complete := rfl

theorem exec_halt (s : State) : exec .halt s = .next s.setHalt.complete := rfl

theorem State.stopped_of_halt {s : State} (h : s.halt = true) : s.stopped = true := by rw [State.stopped, h, Bool.true_or]

/-- A stopped engine ignores every command word, legal or not (rule R242). -/
theorem commandPort_of_stopped {s : State} (h : s.stopped = true) (w : Word) : commandPort w s = .next s := if_pos h

/-- Settles O28: NOP is the count of completed commands and no other update. -/
theorem nopOnlyCounts : Obligations.NopOnlyCounts := exec_nop

/-- Settles O29: HALT sets its flag and counts, and the flag stops the engine for every later word. -/
theorem haltEndsTheRun : Obligations.HaltEndsTheRun := fun s =>
  ⟨exec_halt s, commandPort_of_stopped (State.stopped_of_halt rfl)⟩

end Sys2Proof.Machine

/-! Rounding keeps the order of binary64 magnitudes, and quotients of no more than 1.0 (spec rules R100, R101). -/

namespace Sys2Proof.Machine

/-! ## Rounding keeps the order -/

theorem roundEven_le_of_le_mul {n d q : Nat} (hd : 0 < d) (h : n ≤ q * d) : roundEven n d ≤ q := by
  obtain hlt | heq := (Nat.div_le_of_le_mul (Nat.mul_comm q d ▸ h)).lt_or_eq
  · rw [roundEven]
    split_ifs <;> omega
  · have hexact : n = q * d := le_antisymm h (heq ▸ Nat.div_mul_le_self n d)
    rw [hexact, roundEven_mul hd]

/-- What is no greater than a magnitude of binary64 rounds to no more than its bits: it is rounded at the same shift, or at a
smaller one, where even a significand that is carried to 2^53 stays below the next binade. -/
theorem Canonical.roundUnits_le {q e n d : Nat} (h : Canonical q e) (hd : 0 < d) (hn : n ≤ q * 2 ^ e * d) :
    roundUnits n d ≤ e * 2 ^ 52 + q := by
  have hunits : n / d ≤ q * 2 ^ e := Nat.div_le_of_le_mul (Nat.mul_comm _ d ▸ hn)
  have hshift : (n / d).log2 - 52 ≤ e := by
    rw [← h.shift_eq, Nat.log2_eq_log_two, Nat.log2_eq_log_two]
    exact Nat.sub_le_sub_right (Nat.log_mono_right hunits) 52
  have hsig : n < 2 ^ 53 * (d * 2 ^ ((n / d).log2 - 52)) :=
    calc n < 2 ^ ((n / d).log2 + 1) * d := (Nat.div_lt_iff_lt_mul hd).mp Nat.lt_log2_self
      _ ≤ 2 ^ (53 + ((n / d).log2 - 52)) * d := Nat.mul_le_mul_right d (Nat.pow_le_pow_right Nat.two_pos (by omega))
      _ = 2 ^ 53 * (d * 2 ^ ((n / d).log2 - 52)) := by rw [pow_add]; ring
  rw [roundUnits]
  refine (min_le_left _ _).trans ?_
  generalize (n / d).log2 - 52 = shift at hshift hsig
  have hpos : 0 < d * 2 ^ shift := Nat.mul_pos hd (Nat.two_pow_pos shift)
  obtain hlt | rfl := hshift.lt_or_eq
  · have hcarry := roundEven_le_of_le_mul hpos hsig.le
    obtain rfl | hnormal := h.normal <;> omega
  · exact Nat.add_le_add_left (roundEven_le_of_le_mul hpos (by rwa [mul_comm d, ← mul_assoc])) _

theorem roundUnits_le_of_le_f64Mag {y : RealWord} (hy : f64IsFinite y = true) {n d : Nat} (hd : 0 < d)
    (h : n ≤ f64Mag y * d) : roundUnits n d ≤ y.toNat % 2 ^ 63 := by
  obtain ⟨q, e, hqe, hmag, hbits⟩ := exists_canonical_of_finite hy
  rw [hbits]
  exact hqe.roundUnits_le hd (hmag ▸ h)

/-! ## Absolute values by their bits below the sign -/

@[simp] theorem f64IsFinite_abs (x : RealWord) : f64IsFinite (f64Abs x) = f64IsFinite x := by simp [f64IsFinite]

theorem f64Abs_eq_iff (x y : RealWord) : f64Abs x = f64Abs y ↔ x.toNat % 2 ^ 63 = y.toNat % 2 ^ 63 := by
  rw [← BitVec.toNat_inj, f64Abs_toNat, f64Abs_toNat]

theorem f64Mag_le_of_bits_le {x y : RealWord} (hx : f64IsFinite x = true) (hy : f64IsFinite y = true)
    (h : x.toNat % 2 ^ 63 ≤ y.toNat % 2 ^ 63) : f64Mag x ≤ f64Mag y := by
  by_contra hlt
  have hge : y.toNat % 2 ^ 63 ≤ x.toNat % 2 ^ 63 := by
    rw [← roundUnits_f64Mag hy Nat.one_pos]
    exact roundUnits_le_of_le_f64Mag hx Nat.one_pos (Nat.mul_le_mul_right 1 (Nat.le_of_not_le hlt))
  have hmag := congrArg f64Mag ((f64Abs_eq_iff x y).mpr (le_antisymm h hge))
  rw [f64Mag_abs, f64Mag_abs] at hmag
  exact hlt hmag.le

/-- Among numbers, |x| > y for y of sign 0 compares the magnitudes. -/
theorem f64Gt_abs_eq_false_iff {x y : RealWord} (hx : f64IsNaN x = false) (hy : f64IsNaN y = false) (hs : f64Sign y = false) :
    f64Gt (f64Abs x) y = false ↔ f64Mag x ≤ f64Mag y := by
  rw [Bool.eq_false_iff, ne_eq, f64Gt_eq_true_iff]
  simp [f64Int, hx, hy, hs]

/-! ## Quotients of no more than 1.0 -/

theorem f64Div_of_finite (nan : RealWord) {x y : RealWord} (hx : f64IsFinite x = true) (hy : f64IsFinite y = true)
    (hy0 : f64IsZero y = false) :
    f64Div nan x y = f64Pack (f64Sign x != f64Sign y) (roundUnits (f64Mag x * f64One) (f64Mag y)) := by
  simp [f64Div, f64IsNaN_of_finite, f64IsInf_of_finite, hx, hy, hy0]

theorem f64Mag_one : f64Mag 0x3FF0000000000000#64 = f64One := by decide +kernel

theorem f64Mag_pos {y : RealWord} (hy0 : f64IsZero y = false) : 0 < f64Mag y := by
  rw [Nat.pos_iff_ne_zero, Ne, f64Mag_eq_zero_iff, hy0]
  exact Bool.false_ne_true

theorem f64Pack_mod (neg : Bool) {mag : Nat} (h : mag < 2 ^ 63) : (f64Pack neg mag).toNat % 2 ^ 63 = mag := by
  rw [f64Pack_toNat neg h]
  cases neg <;> simp <;> omega

/-- The rounded quotient of finite values with |x| ≤ |y| is finite and at most 1.0 in magnitude. -/
theorem f64Div_le_one (nan : RealWord) {x y : RealWord} (hx : f64IsFinite x = true) (hy : f64IsFinite y = true)
    (hy0 : f64IsZero y = false) (hle : f64Mag x ≤ f64Mag y) :
    f64IsFinite (f64Div nan x y) = true ∧ f64Mag (f64Div nan x y) ≤ f64Mag 0x3FF0000000000000#64 := by
  have hone : f64IsFinite 0x3FF0000000000000#64 = true := by decide
  have hround : roundUnits (f64Mag x * f64One) (f64Mag y) ≤ (0x3FF0000000000000#64 : RealWord).toNat % 2 ^ 63 :=
    roundUnits_le_of_le_f64Mag hone (f64Mag_pos hy0) (by
      rw [f64Mag_one, mul_comm]
      exact Nat.mul_le_mul_left _ hle)
  rw [f64Div_of_finite nan hx hy hy0]
  have hfinite := f64IsFinite_pack (f64Sign x != f64Sign y) (hround.trans_lt (by decide))
  refine ⟨hfinite, f64Mag_le_of_bits_le hfinite hone ?_⟩
  rwa [f64Pack_mod _ (roundUnits_lt _ _)]

/-- A nonzero finite value divided by its own absolute value is 1.0 with its sign. -/
theorem f64Abs_f64Div_f64Abs (nan : RealWord) {x : RealWord} (hx : f64IsFinite x = true) (hx0 : f64IsZero (f64Abs x) = false) :
    f64Abs (f64Div nan x (f64Abs x)) = 0x3FF0000000000000#64 := by
  have hone : roundUnits (f64One * f64Mag x) (f64Mag x) = (0x3FF0000000000000#64 : RealWord).toNat % 2 ^ 63 := by
    rw [← f64Mag_one]
    exact roundUnits_f64Mag (by decide) (f64Mag_abs x ▸ f64Mag_pos hx0)
  have habs : f64Abs (0x3FF0000000000000#64) = 0x3FF0000000000000#64 := by decide
  rw [← habs, f64Abs_eq_iff, f64Div_of_finite nan hx (by rwa [f64IsFinite_abs]) hx0, f64Pack_mod _ (roundUnits_lt _ _),
    f64Mag_abs, mul_comm, hone]

end Sys2Proof.Machine

/-! Peak normalization does not clip (spec rules R185, R215). -/

namespace Sys2Proof.Machine

/-- PEAK writes neither a buffer nor the transform length. -/
theorem exec_peak_keeps {b : Buf} {s t : State} (h : exec (.peak b) s = .next t) : t.bank b = s.bank b ∧ t.txLen = s.txLen := by
  cases h
  cases b <;> exact ⟨rfl, rfl⟩

/-- PEAK over finite real parts is finite, no real part exceeds it in magnitude, and unless it is zero it is the absolute
value of one of them. -/
theorem peak_of_finite {b : Buf} {s t : State} (h : exec (.peak b) s = .next t)
    (hfin : ∀ e, 1 ≤ e → e ≤ s.txLen → f64IsFinite ((s.bank b).data (2 * e - 1)) = true) :
    f64IsFinite t.peak = true ∧ (∀ e, 1 ≤ e → e ≤ s.txLen → f64Mag ((s.bank b).data (2 * e - 1)) ≤ f64Mag t.peak) ∧
      (f64IsZero t.peak = false → ∃ e, 1 ≤ e ∧ e ≤ s.txLen ∧ t.peak = f64Abs ((s.bank b).data (2 * e - 1))) := by
  obtain ⟨t', ht', -, -, hbound, hattained, hnum, hsign, -⟩ := peakFindsTheLargestRealPart b s
  obtain rfl : t' = t := by cases ht'.symm.trans h; rfl
  refine ⟨?_, fun e h1 he => ?_, fun h0 => hattained.resolve_left fun hzero => ?_⟩
  · obtain hzero | ⟨e, h1, he, hr⟩ := hattained
    · rw [hzero]; decide
    · rw [hr, f64IsFinite_abs, hfin e h1 he]
  · exact (f64Gt_abs_eq_false_iff (f64IsNaN_of_finite (hfin e h1 he)) hnum hsign).mp (hbound e h1 he)
  · rw [hzero] at h0
    exact absurd h0 (by decide)

/-- The words after NORM with a zero PEAK, and with a nonzero one. -/
theorem norm_data {b : Buf} {t u : State} (h : exec (.norm b) t = .next u) {i : Nat} (h1 : 1 ≤ i) (hi : i ≤ 2 * t.txLen) :
    (u.bank b).data i = if f64IsZero t.peak then (t.bank b).data i
      else f64Div (nanAt t.draws [i]) ((t.bank b).data i) t.peak := by
  obtain ⟨hzero, hnonzero⟩ := normDividesByPeak b t
  split
  case isTrue h0 =>
    cases (hzero h0).symm.trans h
    cases b <;> rfl
  case isFalse h0 =>
    obtain ⟨u', hu', -, hdata⟩ := hnonzero (Bool.eq_false_iff.mpr h0)
    cases hu'.symm.trans h
    exact hdata i h1 hi

/-- Settles O47: every real part is no greater in magnitude than PEAK, so its quotient by PEAK rounds to at most 1.0, and the
real part that PEAK comes from divides to 1.0. With a zero PEAK every real part is a zero and stays. -/
theorem noClipAfterPeakAndNorm : Obligations.NoClipAfterPeakAndNorm := by
  intro b s t u hfin hpeak hnorm
  obtain ⟨hpfin, hle, hattained⟩ := peak_of_finite hpeak hfin
  obtain ⟨hbank, htx⟩ := exec_peak_keeps hpeak
  have hdata (e : Nat) (h1 : 1 ≤ e) (he : e ≤ s.txLen) : (u.bank b).data (2 * e - 1) =
      if f64IsZero t.peak then (s.bank b).data (2 * e - 1)
      else f64Div (nanAt t.draws [2 * e - 1]) ((s.bank b).data (2 * e - 1)) t.peak := by
    rw [norm_data hnorm (by omega) (by omega), hbank]
  refine ⟨fun e h1 he => ?_, fun h0 => ?_⟩
  · have hword : f64IsFinite ((u.bank b).data (2 * e - 1)) = true ∧
        f64Mag ((u.bank b).data (2 * e - 1)) ≤ f64Mag 0x3FF0000000000000#64 := by
      rw [hdata e h1 he]
      split
      case isTrue h0 =>
        refine ⟨hfin e h1 he, (hle e h1 he).trans ?_⟩
        rw [(f64Mag_eq_zero_iff _).mpr h0]
        exact Nat.zero_le _
      case isFalse h0 => exact f64Div_le_one _ (hfin e h1 he) hpfin (Bool.eq_false_iff.mpr h0) (hle e h1 he)
    obtain ⟨hufin, humag⟩ := hword
    exact ⟨hufin, (f64Gt_abs_eq_false_iff (f64IsNaN_of_finite hufin) (by decide) (by decide)).mpr humag⟩
  · obtain ⟨e, h1, he, hr⟩ := hattained h0
    refine ⟨e, h1, he, ?_⟩
    rw [hdata e h1 he, if_neg (ne_true_of_eq_false h0), hr]
    exact f64Abs_f64Div_f64Abs _ (hfin e h1 he) (hr ▸ h0)

end Sys2Proof.Machine

/-! Fault entry, and a stopped engine (spec rules R231, R234, R236, R242). -/

namespace Sys2Proof.Machine

/-! ## Fault entry (rules R231, R234) -/

/-- Settles O23: each of the four registers is read off `State.raise`, and with all four put back every other field is as it was. -/
theorem faultEntryWritesFourRegisters : Obligations.FaultEntryWritesFourRegisters := by
  intro s f info
  refine ⟨s.raise_fault f info, ?_, ?_, s.raise_fpc f info, rfl⟩
  · rw [State.raise_fcode]
    cases f <;> rfl
  · rw [State.raise_finfo, BitVec.toNat_ofNat]

/-! ## A stopped engine (rules R236, R242) -/

theorem State.stopped_iff (s : State) : s.stopped = true ↔ s.halt = true ∨ s.fault = true := Bool.or_eq_true_iff

/-- The data port reaches memory words only, never the two flags (rule R59). -/
theorem hostWrite_keeps_flags (s : State) (sp a : Nat) (v : HostWord) :
    (hostWrite s sp a v).halt = s.halt ∧ (hostWrite s sp a v).fault = s.fault := by
  obtain hw | ⟨c, x, -, -, -, hw⟩ | ⟨b, x, -, -, -, hw⟩ := hostWrite_cases s sp a v
  · rw [hw]; exact ⟨rfl, rfl⟩
  · rw [hw]; exact ⟨s.setSamples_halt c _, s.setSamples_fault c _⟩
  · rw [hw]; exact ⟨s.setBank_halt b _, s.setBank_fault b _⟩

/-- Of the host's moves only a reset changes HALT or FAULT of a stopped engine (rule R236). -/
theorem applyMove_keeps_flags_or_resets {m : HostMove} {s t : State} (hs : s.stopped = true) (h : applyMove m s = .next t) :
    (t.halt = s.halt ∧ t.fault = s.fault) ∨ m = .reset ∨ ∃ w, m = .resetDuring w := by
  cases m with
  | command w =>
    cases (commandPort_of_stopped hs w).symm.trans h
    exact .inl ⟨rfl, rfl⟩
  | write sp a v =>
    cases h
    exact .inl (hostWrite_keeps_flags s sp a v)
  | read sp a =>
    cases h
    exact .inl ⟨s.setReply_halt _, s.setReply_fault _⟩
  | reset => exact .inr (.inl rfl)
  | resetDuring w => exact .inr (.inr ⟨w, rfl⟩)

/-- Settles O10: the command port looks at the two flags before it decodes, the data port does not look at them, and
`applyMove_keeps_flags_or_resets` says what can change them. -/
theorem stoppedEngineIgnoresCommands : Obligations.StoppedEngineIgnoresCommands := by
  intro s hflags
  have hs : s.stopped = true := s.stopped_iff.mpr hflags
  exact ⟨commandPort_of_stopped hs, fun _ _ => applyMove_keeps_flags_or_resets hs, fun _ _ => rfl, fun _ _ _ => rfl⟩

end Sys2Proof.Machine

/-! Reset while idle (spec rules R34, R236, R260). -/

namespace Sys2Proof.Machine

@[simp] theorem State.resetRegisters_status (s : State) : s.resetRegisters.status = 0#32 :=
  BitVec.eq_of_toNat_eq (by simp [State.status_toNat])

@[simp] theorem State.resetRegisters_stopped (s : State) : s.resetRegisters.stopped = false := rfl

/-- Rule R34 as the register port reads it, whatever the registers held. -/
theorem registerPort_resetRegisters (s : State) {r : Nat} (hr : r < 9) :
    registerPort s.resetRegisters r = some (.w32 0#32) := by
  interval_cases r
  · rw [registerPort, State.resetRegisters_status]
  all_goals rfl

/-- Settles O16: the move is `State.resetRegisters`, read register by register and memory by memory. -/
theorem resetClearsRegistersAndKeepsMemories : Obligations.ResetClearsRegistersAndKeepsMemories := by
  intro s
  refine ⟨s.resetRegisters, rfl, fun _ hr => registerPort_resetRegisters s hr, ?peak, s.resetRegisters_stopped,
    s.resetRegisters_xmem, s.resetRegisters_hmem, s.resetRegisters_bufa, s.resetRegisters_bufb, s.resetRegisters_omem,
    s.resetRegisters_kmax⟩
  case peak => rw [registerPort, State.resetRegisters_peak]

end Sys2Proof.Machine

/-! Decoding undoes encoding and encoding undoes decoding (spec rules R87 to R93). -/

namespace Sys2Proof

/-! ## Decoding the word of a command -/

/-- The immediate of a word whose low bits are an immediate that fits its field. -/
theorem immOf_or_ofNat (op : BitVec 8) {imm : Nat} (h : imm < 2 ^ 24) : immOf ((op ++ 0#24) ||| BitVec.ofNat 32 imm) = imm := by
  have hop : (op ++ 0#24).extractLsb' 0 24 = 0#24 := BitVec.extractLsb'_append_eq_right
  rw [immOf, BitVec.extractLsb'_or, hop, BitVec.zero_or, BitVec.extractLsb'_toNat, BitVec.toNat_ofNat, Nat.shiftRight_zero,
    Nat.mod_mod_of_dvd _ (by decide), Nat.mod_eq_of_lt h]

theorem immFits_iff (imm : Nat) : immFits imm = true ↔ imm < 2 ^ 24 := decide_eq_true_iff

/-- A command decodes from its word when the word lies in a row that builds the command from it. -/
theorem decode_encode_of_row {i : Instr} {r : Row} (hr : r ∈ opcodeRows) (h : encode i &&& r.mask = r.pat)
    (hbuild : r.build (encode i) = i) : decode (encode i) = .ok i := by
  rw [decode_of_matches hr h, hbuild]

theorem decode_encode {i : Instr} (h : WellFormed i) : decode (encode i) = .ok i := by
  cases i with
  | nop | halt | setn => decide
  | setld imm =>
    exact decode_encode_of_row (r := opcodeRows[2]) (List.getElem_mem _) (Laws.RowOf.setld imm h)
      (congrArg Instr.setld (immOf_or_ofNat 0x10#8 ((immFits_iff imm).mp h)))
  | setli imm =>
    exact decode_encode_of_row (r := opcodeRows[3]) (List.getElem_mem _) (Laws.RowOf.setli imm h)
      (congrArg Instr.setli (immOf_or_ofNat 0x11#8 ((immFits_iff imm).mp h)))
  | setk imm =>
    exact decode_encode_of_row (r := opcodeRows[5]) (List.getElem_mem _) (Laws.RowOf.setk imm h)
      (congrArg Instr.setk (immOf_or_ofNat 0x13#8 ((immFits_iff imm).mp h)))
  | prep b src => cases b <;> cases src <;> decide
  | bfly b sgn | fft b sgn => cases b <;> cases sgn <;> decide
  | bitrev b | cmul b | scale b | peak b | norm b | render b => cases b <;> decide

/-! ## Encoding the command of a word -/

/-- A decoded word lies in the row that built its command. -/
theorem exists_row_of_decode {w : Word} {i : Instr} (h : decode w = .ok i) :
    ∃ r ∈ opcodeRows, w &&& r.mask = r.pat ∧ i = r.build w := by
  unfold decode at h
  split at h
  case h_1 r hf =>
    cases h
    exact ⟨r, List.mem_of_find?_eq_some hf, (rowMatches_iff w r).mp (List.find?_some hf), rfl⟩
  case h_2 => split at h <;> cases h

/-- A word in a row is the row's pattern with the word's bits outside the mask. -/
theorem or_and_not_of_matches {w mask pat : Word} (h : w &&& mask = pat) : pat ||| (w &&& ~~~mask) = w := by
  rw [← h, ← BitVec.and_or_distrib_left, BitVec.or_not_self, BitVec.and_allOnes]

theorem ofNat_immOf (w : Word) : BitVec.ofNat 32 (immOf w) = w &&& 0x00FFFFFF#32 := by
  have hmask : (0x00FFFFFF#32).toNat = 2 ^ 24 - 1 := rfl
  apply BitVec.eq_of_toNat_eq
  rw [BitVec.toNat_and, hmask, Nat.and_two_pow_sub_one_eq_mod, immOf_eq_mod, BitVec.toNat_ofNat]
  omega

theorem bufBit_bufOf (w : Word) : bufBit (bufOf w) = w &&& 1#32 := by
  rw [show (1#32) = BitVec.twoPow 32 0 from rfl, BitVec.and_twoPow, bufOf]
  cases w.getLsbD 0 <;> rfl

theorem sgnBit_sgnOf (w : Word) : sgnBit (sgnOf w) = w &&& 2#32 := by
  rw [show (2#32) = BitVec.twoPow 32 1 from rfl, BitVec.and_twoPow, sgnOf]
  cases w.getLsbD 1 <;> rfl

theorem srcBit_srcOf (w : Word) : srcBit (srcOf w) = w &&& 2#32 := by
  rw [show (2#32) = BitVec.twoPow 32 1 from rfl, BitVec.and_twoPow, srcOf]
  cases w.getLsbD 1 <;> rfl

/-! The formats (rules R82 to R86): a word in a row of a format is the row's pattern with its operand bits. -/

theorem or_imm_of_matches {w pat : Word} (h : w &&& 0xFF000000#32 = pat) : pat ||| BitVec.ofNat 32 (immOf w) = w := by
  rw [ofNat_immOf]
  exact or_and_not_of_matches h

theorem or_buf_of_matches {w pat : Word} (h : w &&& 0xFFFFFFFE#32 = pat) : pat ||| bufBit (bufOf w) = w := by
  rw [bufBit_bufOf]
  exact or_and_not_of_matches h

theorem or_sgn_of_matches {w pat : Word} (h : w &&& 0xFFFFFFFC#32 = pat) :
    pat ||| sgnBit (sgnOf w) ||| bufBit (bufOf w) = w := by
  rw [sgnBit_sgnOf, bufBit_bufOf, BitVec.or_assoc, ← BitVec.and_or_distrib_left]
  exact or_and_not_of_matches h

theorem or_src_of_matches {w pat : Word} (h : w &&& 0xFFFFFFFC#32 = pat) :
    pat ||| srcBit (srcOf w) ||| bufBit (bufOf w) = w := by
  rw [srcBit_srcOf, ← sgnBit_sgnOf]
  exact or_sgn_of_matches h

theorem eq_of_matches_allOnes {w pat : Word} (h : w &&& 0xFFFFFFFF#32 = pat) : pat = w := by
  rw [← h]
  exact BitVec.and_allOnes

theorem immFits_immOf (w : Word) : immFits (immOf w) = true := (immFits_iff _).mpr (BitVec.isLt _)

/-- No bit of a word in a row is dropped: the row builds a command whose word it is. -/
theorem encode_build (w : Word) :
    ∀ r ∈ opcodeRows, w &&& r.mask = r.pat → WellFormed (r.build w) ∧ encode (r.build w) = w := by
  simp only [opcodeRows, List.forall_mem_cons]
  have imm {pat : Word} (h : w &&& 0xFF000000#32 = pat) := And.intro (immFits_immOf w) (or_imm_of_matches h)
  exact ⟨fun h => ⟨rfl, eq_of_matches_allOnes h⟩, fun h => ⟨rfl, eq_of_matches_allOnes h⟩, imm, imm,
    fun h => ⟨rfl, eq_of_matches_allOnes h⟩, imm, fun h => ⟨rfl, or_src_of_matches h⟩, fun h => ⟨rfl, or_buf_of_matches h⟩,
    fun h => ⟨rfl, or_sgn_of_matches h⟩, fun h => ⟨rfl, or_sgn_of_matches h⟩, fun h => ⟨rfl, or_buf_of_matches h⟩,
    fun h => ⟨rfl, or_buf_of_matches h⟩, fun h => ⟨rfl, or_buf_of_matches h⟩, fun h => ⟨rfl, or_buf_of_matches h⟩,
    fun h => ⟨rfl, or_buf_of_matches h⟩, fun _ h => absurd h List.not_mem_nil⟩

theorem encode_of_decode {w : Word} {i : Instr} (h : decode w = .ok i) : WellFormed i ∧ encode i = w := by
  obtain ⟨r, hr, hw, rfl⟩ := exists_row_of_decode h
  exact encode_build w r hr hw

end Sys2Proof

namespace Sys2Proof.Machine

/-- Settles O1: the word lies in the command's row, and each operand is read back from its own bits. -/
theorem decodeUndoesEncode : Obligations.DecodeUndoesEncode := fun _ => decode_encode

/-- Settles O2: `encode_of_decode`. -/
theorem encodeUndoesDecode : Obligations.EncodeUndoesDecode := fun _ _ => encode_of_decode

/-- Settles O6: the eight words are looked up in the map. -/
theorem decodesWordsOfTheSpec : Obligations.DecodesWordsOfTheSpec := by
  unfold Obligations.DecodesWordsOfTheSpec
  decide

end Sys2Proof.Machine

/-! The assembler reads back the canonical line of a command (spec rules R93 to R95, R205). -/

namespace Sys2Proof.Machine

/-! ## Decimal immediates (rules R93, R95) -/

/-- A decimal digit, by its character code. -/
def IsDigit (c : Char) : Prop := 48 ≤ c.toNat ∧ c.toNat ≤ 57

theorem toNat_digit {v : Nat} (h : v < 10) : (Char.ofNat (48 + v)).toNat = 48 + v := by
  interval_cases v <;> rfl

theorem isDigit_digit {v : Nat} (h : v < 10) : IsDigit (Char.ofNat (48 + v)) := by
  rw [IsDigit, toNat_digit h]
  omega

theorem digitValue_digit {v : Nat} (h : v < 10) : digitValue (Char.ofNat (48 + v)) = some v := by
  have := toNat_digit h
  rw [digitValue, if_pos (by omega), this, Nat.add_sub_cancel_left]

theorem digitsOnto_append (base n : Nat) (cs ds : List Char) :
    digitsOnto base n (cs ++ ds) = (digitsOnto base n cs).bind fun m => digitsOnto base m ds := by
  induction cs generalizing n with
  | nil => rfl
  | cons c cs ih =>
    simp only [List.cons_append, digitsOnto]
    cases digitValue c with
    | none => rfl
    | some v =>
      dsimp only
      split
      · exact ih _
      · rfl

theorem digitsOnto_digit {n v : Nat} (h : v < 10) : digitsOnto 10 n [Char.ofNat (48 + v)] = some (n * 10 + v) := by
  simp [digitsOnto, digitValue_digit h, h]

/-- The digits of n, in front of what follows, read back as n. -/
theorem decimalOnto_eq {fuel n : Nat} (h : n < fuel) (acc : List Char) :
    ∃ ds, decimalOnto fuel n acc = ds ++ acc ∧ ds ≠ [] ∧ (∀ c ∈ ds, IsDigit c) ∧ digitsOnto 10 0 ds = some n := by
  induction fuel generalizing n acc with
  | zero => exact absurd h n.not_lt_zero
  | succ fuel ih =>
    rw [decimalOnto]
    split
    case isTrue hn =>
      exact ⟨[Char.ofNat (48 + n)], rfl, List.cons_ne_nil _ _, by simpa using isDigit_digit hn,
        by simpa using digitsOnto_digit (n := 0) hn⟩
    case isFalse hn =>
      have hmod : n % 10 < 10 := Nat.mod_lt n (by decide)
      obtain ⟨ds, heq, -, hdigit, hread⟩ := ih (n := n / 10) (by omega) (Char.ofNat (48 + n % 10) :: acc)
      refine ⟨ds ++ [Char.ofNat (48 + n % 10)], by simp [heq], by simp, ?_, ?_⟩
      · intro c hc
        rcases List.mem_append.mp hc with hc | hc
        · exact hdigit c hc
        · exact List.mem_singleton.mp hc ▸ isDigit_digit hmod
      · rw [digitsOnto_append, hread, Option.bind_some, digitsOnto_digit hmod]
        congr 1
        omega

theorem immText_digits (n : Nat) : immText n ≠ [] ∧ (∀ c ∈ immText n, IsDigit c) ∧ digitsOnto 10 0 (immText n) = some n := by
  obtain ⟨ds, heq, hds⟩ := decimalOnto_eq n.lt_succ_self []
  rw [List.append_nil] at heq
  rwa [immText, heq]

/-- Decimal digits are not read as a hexadecimal immediate: no digit is an `x`. -/
theorem readImm_of_digits {cs : List Char} (h : ∀ c ∈ cs, IsDigit c) : readImm cs = (readDigits 10 cs).filter (· < 2 ^ 24) := by
  unfold readImm
  split
  case h_1 hex =>
    have hx : IsDigit 'x' := h 'x' (by simp)
    exact absurd hx.2 (by decide)
  case h_2 => rfl

theorem readImm_immText {n : Nat} (h : n < 2 ^ 24) : readImm (immText n) = some n := by
  obtain ⟨hne, hdigit, hread⟩ := immText_digits n
  rw [readImm_of_digits hdigit, readDigits, if_neg (by simpa using hne), hread]
  exact Option.filter_some_pos (decide_eq_true h)

/-! ## Lines -/

theorem dropWhile_isBlank_eq_self {cs : List Char} (h : ∀ c ∈ cs.head?, isBlank c = false) : cs.dropWhile isBlank = cs := by
  cases cs with
  | nil => rfl
  | cons c cs => exact List.dropWhile_cons_of_neg (by simpa using h)

/-- A text that no blank begins or ends is trimmed already. -/
theorem trimText_eq_self {cs : List Char} (hfirst : ∀ c ∈ cs.head?, isBlank c = false)
    (hlast : ∀ c ∈ cs.getLast?, isBlank c = false) : trimText cs = cs := by
  rw [trimText, dropWhile_isBlank_eq_self hfirst, dropWhile_isBlank_eq_self (by rwa [List.head?_reverse]), List.reverse_reverse]

theorem splitText_of_not_mem {sep : Char} {cs : List Char} (h : sep ∉ cs) : splitText sep cs = [cs] := by
  induction cs with
  | nil => rfl
  | cons c cs ih =>
    obtain ⟨hc, hcs⟩ := not_or.mp (List.mem_cons.not.mp h)
    rw [splitText, if_neg (Ne.symm hc), ih hcs]

theorem takeWhile_of_not_mem {sep : Char} {cs : List Char} (h : sep ∉ cs) : cs.takeWhile (· != sep) = cs :=
  List.takeWhile_eq_self_iff.mpr fun _ hc => bne_iff_ne.mpr fun heq => h (heq ▸ hc)

/-- A nonempty text with no blank, comment, comma or line end in it: a mnemonic, or an operand in its canonical spelling. -/
structure PlainText (cs : List Char) : Prop where
  ne_nil : cs ≠ []
  not_blank : ∀ c ∈ cs, isBlank c = false
  semicolon : ';' ∉ cs
  comma : ',' ∉ cs
  lineFeed : '\n' ∉ cs

theorem PlainText.trimText_eq {cs : List Char} (h : PlainText cs) : trimText cs = cs :=
  trimText_eq_self (fun c hc => h.not_blank c (List.mem_of_mem_head? hc)) (fun c hc => h.not_blank c (List.mem_of_mem_getLast? hc))

theorem plainText_immText (n : Nat) : PlainText (immText n) := by
  obtain ⟨hne, hdigit, -⟩ := immText_digits n
  have hnot {e : Char} (he : ¬(48 ≤ e.toNat ∧ e.toNat ≤ 57)) : e ∉ immText n := fun hc => he (hdigit e hc)
  refine ⟨hne, fun c hc => ?_, hnot (by decide), hnot (by decide), hnot (by decide)⟩
  have hsep {e : Char} (he : ¬(48 ≤ e.toNat ∧ e.toNat ≤ 57)) : c ≠ e := fun hce => hnot he (hce ▸ hc)
  simp [isBlank, hsep (e := ' ') (by decide), hsep (e := '\t') (by decide), hsep (e := '\r') (by decide)]

/-! A line of a mnemonic, a space and one operand. -/

section
variable {name x : List Char} (hname : PlainText name) (hx : PlainText x)
include hname hx

theorem trimText_operandLine : trimText (name ++ ' ' :: x) = name ++ ' ' :: x := by
  refine trimText_eq_self (fun c hc => ?_) (fun c hc => ?_)
  · rw [List.head?_append_of_ne_nil _ hname.ne_nil] at hc
    exact hname.not_blank c (List.mem_of_mem_head? hc)
  · rw [List.getLast?_append_of_ne_nil _ (List.cons_ne_nil _ _), List.getLast?_cons_of_ne_nil hx.ne_nil] at hc
    exact hx.not_blank c (List.mem_of_mem_getLast? hc)

/-- The mnemonic's row reads the operand. -/
theorem assembleLine_operand {read : List (List Char) → Option (List Instr)}
    (hrow : asmRows.find? (fun r => decide (r.1 = name)) = some (name, read)) : assembleLine (name ++ ' ' :: x) = read [x] := by
  have hcomment : (name ++ ' ' :: x).takeWhile (· != ';') = name ++ ' ' :: x :=
    takeWhile_of_not_mem (by simp [hname.semicolon, hx.semicolon])
  have hword : ∀ c ∈ name, (!isBlank c) = true := fun c hc => by rw [hname.not_blank c hc, Bool.not_false]
  have htake : (name ++ ' ' :: x).takeWhile (fun c => !isBlank c) = name := by
    rw [List.takeWhile_append_of_pos hword, List.takeWhile_cons_of_neg (by decide), List.append_nil]
  have hdrop : (name ++ ' ' :: x).dropWhile (fun c => !isBlank c) = ' ' :: x := by
    rw [List.dropWhile_append_of_pos hword, List.dropWhile_cons_of_neg (by decide)]
  have hrest : trimText (' ' :: x) = x := hx.trimText_eq
  have hops : (splitText ',' x).map trimText = [x] := by
    rw [splitText_of_not_mem hx.comma, List.map_singleton, hx.trimText_eq]
  simp [assembleLine, hcomment, trimText_operandLine hname hx, htake, hdrop, hrest, hops, hname.ne_nil, hx.ne_nil, hrow]

end

theorem assemble_line {line : List Char} (h : '\n' ∉ line) : assemble line = (assembleLine line).map (List.map encode) := by
  rw [assemble, splitText_of_not_mem h, assembleLines, assembleLines]
  cases assembleLine line <;> simp

/-- The canonical line of a command with an immediate, from the mnemonic's row. -/
theorem assemble_imm {name : List Char} {i : Nat → Instr} (hname : PlainText name)
    (hrow : asmRows.find? (fun r => decide (r.1 = name)) = some (name, operands1 readImm fun n => [i n])) {n : Nat}
    (h : immFits n = true) : assemble (name ++ ' ' :: immText n) = some [encode (i n)] := by
  have himm := plainText_immText n
  have hline : '\n' ∉ name ++ ' ' :: immText n := by simp [hname.lineFeed, himm.lineFeed]
  rw [assemble_line hline, assembleLine_operand hname himm hrow, operands1, readImm_immText ((immFits_iff n).mp h)]
  rfl

/-! ## The canonical line of every command -/

theorem assemble_disassemble {i : Instr} (h : WellFormed i) : assemble (disassemble i) = some [encode i] := by
  cases i with
  | nop | halt | setn => decide
  | setld n => exact assemble_imm (name := ['S', 'E', 'T', 'L', 'D']) (by constructor <;> simp [isBlank]) rfl h
  | setli n => exact assemble_imm (name := ['S', 'E', 'T', 'L', 'I']) (by constructor <;> simp [isBlank]) rfl h
  | setk n => exact assemble_imm (name := ['S', 'E', 'T', 'K']) (by constructor <;> simp [isBlank]) rfl h
  | prep b src => cases b <;> cases src <;> decide
  | bfly b sgn | fft b sgn => cases b <;> cases sgn <;> decide
  | bitrev b | cmul b | scale b | peak b | norm b | render b => cases b <;> decide

/-- Settles O7: the word is that of the command it decodes to, and the command's canonical line assembles to it. -/
theorem assemblerReadsBackEveryLegalWord : Obligations.AssemblerReadsBackEveryLegalWord := by
  intro w i h
  obtain ⟨hwf, hw⟩ := encode_of_decode h
  rw [assemble_disassemble hwf, hw]

/-- Settles O8: the pseudo-instruction expands to eleven commands, each with its word. -/
theorem convAssemblesToElevenWords : Obligations.ConvAssemblesToElevenWords := by
  unfold Obligations.ConvAssemblesToElevenWords
  decide

end Sys2Proof.Machine

/-! What one command can do: it raises the fault of the table, or it completes in one of ten ways. The frames over all commands
follow (spec rules R23, R50, R53, R232 to R235, R261). -/

namespace Sys2Proof.Machine

/-- The next states a command that completes can answer, and why it may: the checks it has passed, the words it can have
written. The commands that work on a buffer share one case. -/
inductive Completes (s : State) : Instr → State → Prop
  | nop : Completes s .nop s.complete
  | halt : Completes s .halt s.setHalt.complete
  | setld {imm : Nat} (h : imm ≤ s.nmax) : Completes s (.setld imm) (s.setLd imm).complete
  | setli {imm : Nat} (h : imm ≤ s.nmax) : Completes s (.setli imm) (s.setLi imm).complete
  | setn (h : leastPow s.convLen ≤ s.kmax.val) : Completes s .setn (s.setK (leastPow s.convLen)).complete
  | setk {imm : Nat} (h : imm ≤ s.kmax.val) : Completes s (.setk imm) (s.setK imm).complete
  | buffer {i : Instr} {b : Buf} {d : Bank RealWord} (n : Nat) (hi : footprint i s = .buffer b (2 * s.txLen))
      (hd : Bank.WritesBelow (2 * s.txLen) (s.bank b) d) : Completes s i ({ s.setBank b d with draws := n } : State).complete
  | peak {b : Buf} {pk : RealWord} (h : IsPeak (s.bank b) (rangeTo 1 s.txLen) pk) :
      Completes s (.peak b) ((s.setPeak pk).setPkz (f64IsZero pk)).complete
  | normZero {b : Buf} (h : f64IsZero s.peak = true) : Completes s (.norm b) s.complete
  | render {b : Buf} {o : Bank Sample} {v : Bool} (hi : footprint (.render b) s = .outputs s.convLen)
      (hfits : s.convLen ≤ s.txLen) (ho : Bank.WritesBelow s.convLen s.output o) :
      Completes s (.render b) (((s.setOutput o).setOvf v).setOlen s.convLen).drawn.complete

/-- Both ways a command can end, in one statement with the table of causes. -/
def FaultsOrCompletes (i : Instr) (s : State) : Prop :=
  (∃ f info, faultOf i s = some (f, info) ∧ exec i s = .next (s.raise f info)) ∨
    faultOf i s = none ∧ ∃ t, exec i s = .next t ∧ Completes s i t

/-- A command with one check against a bound. -/
theorem faultsOrCompletes_of_bound {i : Instr} {s t : State} {f : FaultCode} {v bound : Nat}
    (hfault : faultOf i s = if v > bound then some (f, v) else none)
    (hexec : exec i s = if v ≤ bound then .next t else .next (s.raise f v)) (hdone : v ≤ bound → Completes s i t) :
    FaultsOrCompletes i s := by
  by_cases h : v ≤ bound
  · exact .inr ⟨by rw [hfault, if_neg (Nat.not_lt.mpr h)], t, by rw [hexec, if_pos h], hdone h⟩
  · exact .inl ⟨f, v, by rw [hfault, if_pos (Nat.lt_of_not_le h)], by rw [hexec, if_neg h]⟩

theorem State.lensPositive_eq_false_iff (s : State) : s.lensPositive = false ↔ s.ld = 0#26 ∨ s.li = 0#26 := by
  rw [Bool.eq_false_iff, ne_eq, s.lensPositive_iff, ← BitVec.toNat_inj, ← BitVec.toNat_inj, BitVec.toNat_zero]
  omega

/-- A command that first checks the two lengths, and then one bound. -/
theorem faultsOrCompletes_of_lengths {i : Instr} {s t : State} {f : FaultCode} {v bound : Nat}
    (hfault : faultOf i s = if s.ld = 0#26 ∨ s.li = 0#26 then some (.eempty, 0) else if v > bound then some (f, v) else none)
    (hexec : exec i s = if s.lensPositive then if v ≤ bound then .next t else .next (s.raise f v) else .next (s.raise .eempty 0))
    (hdone : s.lensPositive = true → v ≤ bound → Completes s i t) : FaultsOrCompletes i s := by
  cases h : s.lensPositive
  case false => exact .inl ⟨.eempty, 0, by rw [hfault, if_pos (s.lensPositive_eq_false_iff.mp h)], by rw [hexec, h]; rfl⟩
  case true =>
    have hlens : ¬(s.ld = 0#26 ∨ s.li = 0#26) := by rw [← s.lensPositive_eq_false_iff, h]; decide
    exact faultsOrCompletes_of_bound (by rw [hfault, if_neg hlens]) (by rw [hexec, h]; rfl) (hdone h)

/-- Every command, in every state. -/
theorem exec_faultsOrCompletes (i : Instr) (s : State) : FaultsOrCompletes i s := by
  cases i with
  | nop => exact .inr ⟨rfl, _, rfl, .nop⟩
  | halt => exact .inr ⟨rfl, _, rfl, .halt⟩
  | setld imm => exact faultsOrCompletes_of_bound rfl rfl .setld
  | setli imm => exact faultsOrCompletes_of_bound rfl rfl .setli
  | setn =>
    refine faultsOrCompletes_of_lengths (v := s.convLen) (bound := 2 ^ s.kmax.val) rfl ?_ fun _ h =>
      .setn ((leastPow_le_iff _ _).mpr h)
    simp only [exec, execSetn, leastPow_le_iff]
  | setk imm => exact faultsOrCompletes_of_bound rfl rfl .setk
  | prep b src =>
    refine faultsOrCompletes_of_bound (v := s.srcLen src) (bound := s.txLen) (by cases src <;> rfl) rfl fun h => ?_
    exact .buffer (s.setBank b _).draws (if_pos h) (prepBank_writesBelow _ h _ _)
  | bitrev b => exact .inr ⟨rfl, _, rfl, .buffer (s.setBank b _).draws rfl (bitrevBank_writesBelow _ _)⟩
  | bfly b sgn => exact .inr ⟨rfl, _, rfl, .buffer _ rfl (bflyBank_writesBelow _ _ sgn _)⟩
  | fft b sgn => exact .inr ⟨rfl, _, rfl, .buffer _ rfl (fftBank_writesBelow _ _ sgn _)⟩
  | cmul b => exact .inr ⟨rfl, _, rfl, .buffer _ rfl (cmulBank_writesBelow _ _ _ _)⟩
  | scale b => exact .inr ⟨rfl, _, rfl, .buffer _ rfl (scaleBank_writesBelow _ _ _)⟩
  | peak b => exact .inr ⟨rfl, _, rfl, .peak (isPeak_peakBank _ _ _)⟩
  | norm b =>
    cases h : f64IsZero s.peak
    case false =>
      exact .inr ⟨rfl, _, exec_norm_of_nonzero b h,
        .buffer _ (if_neg (ne_true_of_eq_false h)) (divBank_writesBelow _ _ _ _)⟩
    case true => exact .inr ⟨rfl, _, exec_norm_of_zero b h, .normZero h⟩
  | render b =>
    refine faultsOrCompletes_of_lengths (v := s.convLen) (bound := s.txLen) rfl rfl fun hpos h => ?_
    exact .render (by simp [footprint, hpos, h]) h (renderBank_writesBelow _ _ _ _ _)

/-- A command that answers t has raised a fault of the table, or t is one of the states it can complete in. -/
theorem exec_next_cases {i : Instr} {s t : State} (h : exec i s = .next t) :
    (∃ f info, faultOf i s = some (f, info) ∧ t = s.raise f info) ∨ Completes s i t := by
  obtain ⟨f, info, hf, ht⟩ | ⟨-, u, ht, hu⟩ := exec_faultsOrCompletes i s
  · cases ht.symm.trans h
    exact .inl ⟨f, info, hf, rfl⟩
  · cases ht.symm.trans h
    exact .inr hu

/-! ## The fault record and the count of commands (rules R23, R232 to R235) -/

theorem Completes.counts {i : Instr} {s t : State} (h : Completes s i t) :
    t.cmdcnt = s.cmdcnt + 1#32 ∧ t.fault = s.fault ∧ t.fcode = s.fcode ∧ t.finfo = s.finfo ∧ t.fpc = s.fpc := by
  cases h <;> simp

/-- Settles O24: `exec_faultsOrCompletes`, and what completion counts and leaves alone. -/
theorem commandsFaultExactlyByTheTable : Obligations.CommandsFaultExactlyByTheTable := by
  intro i s
  obtain ⟨f, info, hf, ht⟩ | ⟨hf, t, ht, hdone⟩ := exec_faultsOrCompletes i s
  · rw [hf]
    exact ht
  · rw [hf]
    exact ⟨t, ht, hdone.counts⟩

/-! ## The words a command can write (rules R50, R53, R73, R261) -/

theorem State.setBank_bank_ne (s : State) {b c : Buf} (h : c ≠ b) (d : Bank RealWord) : (s.setBank b d).bank c = s.bank c := by
  cases b <;> cases c
  case A.B | B.A => rfl
  case A.A | B.B => exact absurd rfl h

/-- A buffer put back after work on its first n words: every other word of either buffer reads as before. -/
theorem State.setBank_bank_read {n : Nat} {s : State} {b : Buf} {d : Bank RealWord} (h : Bank.WritesBelow n (s.bank b) d)
    {c : Buf} {a : Nat} (hout : c = b → n ≤ a) : ((s.setBank b d).bank c).read a = (s.bank c).read a := by
  by_cases hc : c = b
  · subst hc
    rw [State.setBank_bank_of_writesBelow s c h, h.read (hout rfl)]
  · rw [s.setBank_bank_ne hc]

theorem State.bank_draws (s : State) (n : Nat) (c : Buf) : ({ s with draws := n } : State).bank c = s.bank c := by cases c <;> rfl

theorem Completes.bank_read {i : Instr} {s t : State} (h : Completes s i t) {c : Buf} {a : Nat}
    (hout : ∀ n, footprint i s = .buffer c n → n ≤ a) : (t.bank c).read a = (s.bank c).read a := by
  cases h with
  | buffer n hi hd =>
    rw [State.complete_bank, State.bank_draws, State.setBank_bank_read hd]
    rintro rfl
    exact hout _ hi
  | _ => simp

theorem Completes.output_read {i : Instr} {s t : State} (h : Completes s i t) {a : Nat}
    (hout : ∀ n, footprint i s = .outputs n → n ≤ a) : t.output.read a = s.output.read a := by
  cases h with
  | @buffer _ b d n =>
    rw [State.complete_output]
    exact congrArg (Bank.read · a) (s.setBank_output b d)
  | render hi hfits ho =>
    rw [State.complete_output, State.drawn_output, State.setOlen_output, State.setOvf_output,
      State.setOutput_output_of_writesBelow s ho, ho.read (hout _ hi)]
  | _ => simp

/-- Settles O25: a fault entry writes no memory, and a command that completes writes inside its footprint. -/
theorem commandsWriteOnlyTheirFootprint : Obligations.CommandsWriteOnlyTheirFootprint := by
  intro i s t h
  refine ⟨congrArg Bank.cells (exec_keeps_samples h .X), congrArg Bank.cells (exec_keeps_samples h .H), fun c a hout => ?_,
    fun a hout => ?_⟩
  · obtain ⟨f, info, -, rfl⟩ | hdone := exec_next_cases h
    · rw [State.raise_bank]
    · exact hdone.bank_read hout
  · obtain ⟨f, info, -, rfl⟩ | hdone := exec_next_cases h
    · rw [State.raise_output]
    · exact hdone.output_read hout

/-- Settles O26: a fault entry writes its four registers, and each way to complete the registers of its own command. -/
theorem onlyTheNamedCommandsWriteARegister : Obligations.OnlyTheNamedCommandsWriteARegister := by
  intro i s t h
  obtain ⟨f, info, -, rfl⟩ | hdone := exec_next_cases h
  · simp
  · cases hdone <;> simp

end Sys2Proof.Machine

/-! The data port reads back what it wrote (spec rules R52, R59). -/

namespace Sys2Proof.Machine

theorem registerPort_setSamples (s : State) (c : Src) (d : Bank Sample) (r : Nat) :
    registerPort (s.setSamples c d) r = registerPort s r := by cases c <;> rfl

theorem registerPort_setBank (s : State) (b : Buf) (d : Bank RealWord) (r : Nat) :
    registerPort (s.setBank b d) r = registerPort s r := by cases b <;> rfl

theorem hostRead_samples (s : State) (c : Src) (a : Nat) :
    hostRead s (sampleSpace c) a = if a < s.nmax then some (.w16 ((s.samples c).read a)) else none := by cases c <;> rfl

theorem hostRead_bank (s : State) (b : Buf) (a : Nat) :
    hostRead s (bufSpace b) a = if a < 2 * s.nmax then some (.w64 ((s.bank b).read a)) else none := by cases b <;> rfl

theorem hostWrite_samples {s : State} {a : Nat} (h : a < s.nmax) (c : Src) (x : Sample) :
    hostWrite s (sampleSpace c) a (.w16 x) = s.setSamples c ((s.samples c).write a x) := by cases c <;> exact if_pos h

theorem hostWrite_bank {s : State} {a : Nat} (h : a < 2 * s.nmax) (b : Buf) (x : RealWord) :
    hostWrite s (bufSpace b) a (.w64 x) = s.setBank b ((s.bank b).write a x) := by cases b <;> exact if_pos h

/-- A read sees the registers, the capacity and the memory of its space only. -/
theorem hostRead_congr {s t : State} {sp a : Nat} (hreg : registerPort t a = registerPort s a) (hn : t.nmax = s.nmax)
    (hs : ∀ c, sp = sampleSpace c → t.samples c = s.samples c) (hb : ∀ b, sp = bufSpace b → t.bank b = s.bank b)
    (ho : t.output = s.output) : hostRead t sp a = hostRead s sp a := by
  unfold hostRead
  split
  case h_1 => exact hreg
  case h_2 => rw [hn, hs .X rfl]
  case h_3 => rw [hn, hs .H rfl]
  case h_4 => rw [hn, hb .A rfl]
  case h_5 => rw [hn, hb .B rfl]
  case h_6 => rw [hn, ho]
  case h_7 => rfl

theorem hostRead_setSamples_ne {sp : Nat} {c : Src} (h : sp ≠ sampleSpace c) (s : State) (d : Bank Sample) (a : Nat) :
    hostRead (s.setSamples c d) sp a = hostRead s sp a :=
  hostRead_congr (registerPort_setSamples s c d a) (s.setSamples_nmax c d)
    (fun _ hsp => s.setSamples_samples_ne (fun hc => h (hsp.trans (congrArg sampleSpace hc))) d)
    (fun e _ => s.setSamples_bank c d e) (s.setSamples_output c d)

theorem hostRead_setBank_ne {sp : Nat} {b : Buf} (h : sp ≠ bufSpace b) (s : State) (d : Bank RealWord) (a : Nat) :
    hostRead (s.setBank b d) sp a = hostRead s sp a :=
  hostRead_congr (registerPort_setBank s b d a) (s.setBank_nmax b d) (fun c _ => s.setBank_samples b d c)
    (fun _ hsp => s.setBank_bank_ne (fun hc => h (hsp.trans (congrArg bufSpace hc))) d) (s.setBank_output b d)

theorem State.setSamples_write_samples (s : State) (c : Src) (a : Nat) (x : Sample) :
    (s.setSamples c ((s.samples c).write a x)).samples c = (s.samples c).write a x := by cases c <;> rfl

theorem State.setBank_write_bank (s : State) (b : Buf) (a : Nat) (x : RealWord) :
    (s.setBank b ((s.bank b).write a x)).bank b = (s.bank b).write a x := by cases b <;> rfl

/-- The data port at a sample memory. -/
theorem hostRead_hostWrite_samples {s : State} {a : Nat} (h : a < s.nmax) (c : Src) (x : Sample) (sp' a' : Nat) :
    hostRead (hostWrite s (sampleSpace c) a (.w16 x)) sp' a' =
      if sp' = sampleSpace c ∧ a' = a then some (.w16 x) else hostRead s sp' a' := by
  rw [hostWrite_samples h]
  by_cases hsp : sp' = sampleSpace c
  · subst hsp
    rw [hostRead_samples, hostRead_samples, s.setSamples_write_samples, Bank.read_write, State.setSamples_nmax]
    by_cases ha : a' = a
    · simp [ha, h]
    · simp [ha]
  · rw [hostRead_setSamples_ne hsp, if_neg fun hc => hsp hc.1]

/-- The data port at a buffer. -/
theorem hostRead_hostWrite_bank {s : State} {a : Nat} (h : a < 2 * s.nmax) (b : Buf) (x : RealWord) (sp' a' : Nat) :
    hostRead (hostWrite s (bufSpace b) a (.w64 x)) sp' a' =
      if sp' = bufSpace b ∧ a' = a then some (.w64 x) else hostRead s sp' a' := by
  rw [hostWrite_bank h]
  by_cases hsp : sp' = bufSpace b
  · subst hsp
    rw [hostRead_bank, hostRead_bank, s.setBank_write_bank, Bank.read_write, State.setBank_nmax]
    by_cases ha : a' = a
    · simp [ha, h]
    · simp [ha]
  · rw [hostRead_setBank_ne hsp, if_neg fun hc => hsp hc.1]

theorem data_hostWrite_bank {s : State} {a : Nat} (h : a < 2 * s.nmax) (b : Buf) (x : RealWord) :
    ((hostWrite s (bufSpace b) a (.w64 x)).bank b).data (a + 1) = x := by
  rw [hostWrite_bank h, s.setBank_write_bank, Bank.data, Nat.add_sub_cancel, Bank.read_write_same]

/-- Settles O19: what a read returns after a write to a sample memory, and after one to a buffer. -/
theorem hostWriteThenRead : Obligations.HostWriteThenRead := by
  rintro s sp a v (⟨hsp, ha, x, rfl⟩ | ⟨hsp, ha, x, rfl⟩)
  · obtain ⟨c, rfl⟩ : ∃ c, sp = sampleSpace c := hsp.elim (fun h => ⟨.X, h⟩) fun h => ⟨.H, h⟩
    refine ⟨?_, fun sp' a' hne => ?_, fun h => ?_, fun h => ?_⟩
    · rw [hostRead_hostWrite_samples ha, if_pos ⟨rfl, rfl⟩]
    · rw [hostRead_hostWrite_samples ha, if_neg hne]
    all_goals cases c <;> cases h
  · obtain ⟨b, rfl⟩ : ∃ b, sp = bufSpace b := hsp.elim (fun h => ⟨.A, h⟩) fun h => ⟨.B, h⟩
    have hdata := data_hostWrite_bank ha b x
    refine ⟨?_, fun sp' a' hne => ?_, fun h => ?_, fun h => ?_⟩
    · rw [hostRead_hostWrite_bank ha, if_pos ⟨rfl, rfl⟩]
    · rw [hostRead_hostWrite_bank ha, if_neg hne]
    · cases b
      · rw [hdata]
      · cases h
    · cases b
      · cases h
      · rw [hdata]

end Sys2Proof.Machine

/-! Steps and runs: every host move is answered, and a run that has ended is its result (spec rules R61, R261, R266 to R269). -/

namespace Sys2Proof.Machine

/-! ## One step -/

theorem step_of_idle {s : State} (h : s.pending = []) : step s = .next s := by rw [step, nextMove, h]

theorem step_of_cons {s : State} {m : HostMove} {ms : List HostMove} (h : s.pending = m :: ms) :
    step s = applyMove m (s.setPending ms) := by rw [step, nextMove, h]

theorem commandPort_of_decode {w : Word} {i : Instr} {s : State} (hrun : s.stopped = false) (h : decode w = .ok i) :
    commandPort w s = exec i s := by simp [commandPort, hrun, h]

/-- Settles O11: `step_of_idle`. -/
theorem idleEngineStaysPut : Obligations.IdleEngineStaysPut := fun _ => step_of_idle

/-- Settles O9: the step takes the move off, and the command port of a running engine decodes. -/
theorem stepRunsDecodedCommand : Obligations.StepRunsDecodedCommand := by
  intro s w ms i hp hhalt hfault hdecode
  have hrun : (s.setPending ms).stopped = false := by simp [State.stopped, hhalt, hfault]
  exact (step_of_cons hp).trans (commandPort_of_decode hrun hdecode)

/-! ## A reset during a command (rule R261) -/

/-- The words a reset during the command leaves unspecified: none, or the footprint of the command the engine was running. -/
theorem resetDuring_eq (w : Word) (s : State) : ∃ f, resetDuring w s = (s.havoc f).drawn.resetRegisters ∧
    (f = .nothing ∨ ∃ i, s.stopped = false ∧ decode w = .ok i ∧ f = footprint i s) := by
  refine ⟨_, rfl, ?_⟩
  cases hs : s.stopped
  case true => exact .inl rfl
  case false =>
    cases hw : decode w with
    | ok i => exact .inr ⟨i, rfl, rfl, rfl⟩
    | error e => exact .inl rfl

theorem State.havoc_kmax (s : State) (f : Footprint) : (s.havoc f).kmax = s.kmax := by cases f <;> simp [State.havoc]

theorem State.havoc_pending (s : State) (f : Footprint) : (s.havoc f).pending = s.pending := by cases f <;> simp [State.havoc]

theorem State.havoc_bank_read {s : State} {f : Footprint} {c : Buf} {a : Nat} (hout : ∀ n, f = .buffer c n → n ≤ a) :
    ((s.havoc f).bank c).read a = (s.bank c).read a := by
  cases f with
  | nothing => rfl
  | buffer b n => exact State.setBank_bank_read (havocWords_writesBelow _ n _) fun h => hout n (h ▸ rfl)
  | outputs n => rw [State.havoc, State.setOutput_bank]

theorem State.havoc_output_read {s : State} {f : Footprint} {a : Nat} (hout : ∀ n, f = .outputs n → n ≤ a) :
    (s.havoc f).output.read a = s.output.read a := by
  cases f with
  | nothing => rfl
  | buffer b n => rw [State.havoc, State.setBank_output]
  | outputs n =>
    have hw := havocWords_writesBelow (Config.havocSample s.draws) n s.output
    rw [State.havoc, State.setOutput_output_of_writesBelow s hw, hw.read (hout n rfl)]

/-- Settles O17: what the reset can have left unspecified lies in the footprint, and the registers are reset after that. -/
theorem resetDuringACommandTouchesOnlyItsFootprint : Obligations.ResetDuringACommandTouchesOnlyItsFootprint := by
  intro w s
  obtain ⟨f, ht, hf⟩ := resetDuring_eq w s
  have hsize {g : Nat → Footprint} {a : Nat} (hg : ∀ n, g n ≠ .nothing)
      (hout : ∀ i n, s.stopped = false → decode w = .ok i → footprint i s = g n → n ≤ a) (n : Nat) (hn : f = g n) : n ≤ a := by
    obtain rfl | ⟨i, hrun, hw, rfl⟩ := hf
    · exact absurd hn.symm (hg n)
    · exact hout i n hrun hw hn
  refine ⟨_, rfl, fun _ hr => registerPort_resetRegisters _ hr, ?peak, congrArg Bank.cells (resetDuring_samples w s .X),
    congrArg Bank.cells (resetDuring_samples w s .H), fun b a hout => ?_, fun a hout => ?_⟩
  case peak => rfl
  · rw [ht, State.resetRegisters_bank, State.drawn_bank, State.havoc_bank_read (hsize (by simp) hout)]
  · rw [ht, State.resetRegisters_output, State.drawn_output, State.havoc_output_read (hsize (by simp) hout)]

/-! ## Every move is answered -/

/-- No command stops the model, changes KMAX or touches the host's side. -/
theorem exec_answers (i : Instr) (s : State) : ∃ t, exec i s = .next t ∧ t.kmax = s.kmax ∧ t.pending = s.pending := by
  obtain ⟨f, info, -, ht⟩ | ⟨-, t, ht, hdone⟩ := exec_faultsOrCompletes i s
  · exact ⟨_, ht, rfl, rfl⟩
  · exact ⟨t, ht, by cases hdone <;> simp⟩

theorem commandPort_answers (w : Word) (s : State) :
    ∃ t, commandPort w s = .next t ∧ t.kmax = s.kmax ∧ t.pending = s.pending := by
  cases hs : s.stopped
  case true => exact ⟨s, commandPort_of_stopped hs w, rfl, rfl⟩
  case false =>
    cases hw : decode w with
    | ok i => rw [commandPort_of_decode hs hw]; exact exec_answers i s
    | error e => exact ⟨_, commandPort_of_illegal hs hw, rfl, rfl⟩

/-- A write changes the four writable memories only. -/
theorem hostWrite_rest (s : State) (sp a : Nat) (v : HostWord) :
    ({ hostWrite s sp a v with xmem := s.xmem, hmem := s.hmem, bufa := s.bufa, bufb := s.bufb } : State) = s := by
  obtain hw | ⟨c, x, -, -, -, hw⟩ | ⟨b, x, -, -, -, hw⟩ := hostWrite_cases s sp a v <;> rw [hw]
  · cases c <;> rfl
  · cases b <;> rfl

theorem applyMove_answers (m : HostMove) (s : State) :
    ∃ t, applyMove m s = .next t ∧ t.kmax = s.kmax ∧ t.pending = s.pending := by
  cases m with
  | command w => exact commandPort_answers w s
  | write sp a v =>
    have h := hostWrite_rest s sp a v
    exact ⟨hostWrite s sp a v, rfl, (congrArg State.kmax h :), (congrArg State.pending h :)⟩
  | read sp a => exact ⟨_, rfl, rfl, rfl⟩
  | reset => exact ⟨_, rfl, rfl, rfl⟩
  | resetDuring w =>
    obtain ⟨f, ht, -⟩ := resetDuring_eq w s
    refine ⟨resetDuring w s, rfl, ?_, ?_⟩
    · rw [ht]; exact s.havoc_kmax f
    · rw [ht]; exact s.havoc_pending f

/-- A step takes the next move off, if there is one. -/
theorem step_answers (s : State) : ∃ t, step s = .next t ∧ t.kmax = s.kmax ∧ t.pending = s.pending.tail := by
  cases hp : s.pending with
  | nil => exact ⟨s, step_of_idle hp, rfl, hp⟩
  | cons m ms => rw [step_of_cons hp]; exact applyMove_answers m (s.setPending ms)

/-- Settles O12: `step_answers`. -/
theorem everyStepAnswersNext : Obligations.EveryStepAnswersNext := fun s =>
  have ⟨t, ht, hk, _⟩ := step_answers s
  ⟨t, ht, hk⟩

/-! ## Runs (rules R268, R269) -/

/-- n steps take n moves off. -/
theorem run_answers (n : Nat) (s : State) :
    ∃ t : State, Host.Core.run Sys2Proof.core n s = .next t ∧ t.pending = s.pending.drop n := by
  induction n generalizing s with
  | zero => exact ⟨s, rfl, rfl⟩
  | succ n ih =>
    obtain ⟨t, ht, -, hp⟩ := step_answers s
    rw [run_succ_of_next ht, ← List.drop_tail, ← hp]
    exact ih t

/-- Settles O21: as many steps as there are moves take them all off. -/
theorem everyStreamEnds : Obligations.EveryStreamEnds := fun s =>
  have ⟨t, ht, hp⟩ := run_answers s.pending.length s
  ⟨t, ht, hp.trans List.drop_length⟩

/-- What every step keeps, every run keeps. -/
theorem run_keeps {P : State → Prop} (hstep : ∀ s, P s → ∃ t, step s = .next t ∧ P t) (n : Nat) {s : State} (h : P s) :
    ∃ t : State, Host.Core.run Sys2Proof.core n s = .next t ∧ P t := by
  induction n generalizing s with
  | zero => exact ⟨s, rfl, h⟩
  | succ n ih =>
    obtain ⟨t, ht, hP⟩ := hstep s h
    rw [run_succ_of_next ht]
    exact ih hP

/-! ## A run ended by HALT or a fault (rules R242, R268) -/

theorem stopped_of_runEnd {s : State} (h : runEnd s = some .halted ∨ runEnd s = some .faulted) : s.stopped = true := by
  rw [s.stopped_iff]
  unfold runEnd at h
  by_contra hflags
  obtain ⟨hhalt, hfault⟩ := not_or.mp hflags
  rw [if_neg hhalt, if_neg hfault] at h
  split at h <;> simp at h

/-- `t` is the ended state `s` but for the moves taken off and the last reply, and only commands and reads are to come. -/
def IgnoringAfter (s t : State) : Prop :=
  ({ t with pending := s.pending, reply := s.reply } : State) = s ∧ QuietHost t.pending

theorem IgnoringAfter.step {s t : State} (hs : s.stopped = true) (h : IgnoringAfter s t) :
    ∃ u, step t = .next u ∧ IgnoringAfter s u := by
  obtain ⟨heq, hquiet⟩ := h
  cases hp : t.pending with
  | nil => exact ⟨t, step_of_idle hp, heq, hquiet⟩
  | cons m ms =>
    rw [hp] at hquiet
    rw [step_of_cons hp]
    have hms : QuietHost ms := fun x hx => hquiet x (List.mem_cons_of_mem m hx)
    obtain ⟨w, rfl⟩ | ⟨sp, a, rfl⟩ := hquiet m List.mem_cons_self
    · have ht : (t.setPending ms).stopped = true := (congrArg State.stopped heq).trans hs
      exact ⟨_, commandPort_of_stopped ht w, heq, hms⟩
    · exact ⟨_, rfl, heq, hms⟩

/-- Settles O22: each step of a stopped engine ignores a command or serves a read. -/
theorem endedRunIgnoresTheRest : Obligations.EndedRunIgnoresTheRest := by
  intro s hend hquiet n
  have hstart : IgnoringAfter s s := ⟨rfl, hquiet⟩
  obtain ⟨t, ht, heq, -⟩ := run_keeps (fun _ => IgnoringAfter.step (stopped_of_runEnd hend)) n hstart
  exact ⟨t, ht, heq⟩

/-! ## A run ended by exhaustion (rule R268, case (c)) -/

theorem runEnd_eq_exhausted_iff (s : State) :
    runEnd s = some .exhausted ↔ s.stopped = false ∧ wordsLeft s.pending = [] := by
  unfold runEnd State.stopped
  cases s.halt <;> cases s.fault <;> simp

/-- A data-port or register access: a move that is no word of a run. -/
def IsAccess (m : HostMove) : Prop := (∃ sp a v, m = .write sp a v) ∨ ∃ sp a, m = .read sp a

/-- With no reset among them, the moves hold no word exactly when each is an access. -/
theorem wordsLeft_eq_nil_iff {ms : List HostMove} (h : .reset ∉ ms) : wordsLeft ms = [] ↔ ∀ m ∈ ms, IsAccess m := by
  induction ms with
  | nil => simp [wordsLeft]
  | cons m ms ih =>
    obtain ⟨hm, hms⟩ := not_or.mp (List.mem_cons.not.mp h)
    cases m with
    | write | read => simp [wordsLeft, ih hms, IsAccess]
    | command | resetDuring => simp [wordsLeft, IsAccess]
    | reset => exact absurd rfl hm

/-- `t` with the host's side of `s`: what the host can write, has still to do and has last read. -/
def State.withHostSide (t s : State) : State :=
  { t with xmem := s.xmem, hmem := s.hmem, bufa := s.bufa, bufb := s.bufb, pending := s.pending, reply := s.reply }

/-- `t` is the exhausted state `s` but for the host's side, and only accesses are to come. -/
def ExhaustedAfter (s t : State) : Prop := t.withHostSide s = s ∧ ∀ m ∈ t.pending, IsAccess m

theorem ExhaustedAfter.step {s t : State} (h : ExhaustedAfter s t) : ∃ u, step t = .next u ∧ ExhaustedAfter s u := by
  obtain ⟨heq, hacc⟩ := h
  cases hp : t.pending with
  | nil => exact ⟨t, step_of_idle hp, heq, hacc⟩
  | cons m ms =>
    rw [hp] at hacc
    rw [step_of_cons hp]
    have hms : ∀ x ∈ ms, IsAccess x := fun x hx => hacc x (List.mem_cons_of_mem m hx)
    obtain ⟨sp, a, v, rfl⟩ | ⟨sp, a, rfl⟩ := hacc m List.mem_cons_self
    · have hrest := hostWrite_rest (t.setPending ms) sp a v
      refine ⟨_, rfl, (congrArg (State.withHostSide · s) hrest).trans heq, ?_⟩
      rwa [show (hostWrite (t.setPending ms) sp a v).pending = ms from congrArg State.pending hrest]
    · exact ⟨_, rfl, heq, hms⟩

/-- Settles O60: an exhausted run has only accesses to come, each of which changes the host's side alone. -/
theorem exhaustedRunIsTheResult : Obligations.ExhaustedRunIsTheResult := by
  intro s hend hreset n
  obtain ⟨hrun, hwords⟩ := (runEnd_eq_exhausted_iff s).mp hend
  have hstart : ExhaustedAfter s s := ⟨rfl, (wordsLeft_eq_nil_iff hreset).mp hwords⟩
  obtain ⟨t, ht, heq, hacc⟩ := run_keeps (fun _ => ExhaustedAfter.step) n hstart
  have hnoreset : .reset ∉ t.pending := fun h => by simpa [IsAccess] using hacc _ h
  have hstopped : t.stopped = false := (congrArg State.stopped heq).trans hrun
  exact ⟨t, ht, (runEnd_eq_exhausted_iff t).mpr ⟨hstopped, (wordsLeft_eq_nil_iff hnoreset).mpr hacc⟩, heq⟩

end Sys2Proof.Machine

/-! The machine's invariant: each update of the state keeps it, so each command, each host move and each step does (spec rules
R21, R25 to R28, R32, R50, R57, R236). -/

namespace Sys2Proof.Machine

/-! ## Reset (rule R34) -/

/-- Settles O13: every register is zero and every memory empty. -/
theorem invariantHoldsAtReset : Obligations.InvariantHoldsAtReset where
  k_le := Nat.zero_le _
  ld_le := Nat.zero_le _
  li_le := Nat.zero_le _
  olen_le := Nat.zero_le _
  fcode_iff := by decide
  fcode_le := by decide
  no_fault_record := fun _ => ⟨rfl, rfl⟩
  fault_pc := fun hf => absurd hf (by decide)
  one_end := by decide
  peak_number := by decide
  peak_sign := by decide
  pkz_zero := fun hz => absurd hz (by decide)
  xmem_wf := Mem.wf_nil
  hmem_wf := Mem.wf_nil
  bufa_wf := Mem.wf_nil
  bufb_wf := Mem.wf_nil
  omem_wf := Mem.wf_nil
  xmem_in := fun _ hc => absurd hc List.not_mem_nil
  hmem_in := fun _ hc => absurd hc List.not_mem_nil
  bufa_in := fun _ hc => absurd hc List.not_mem_nil
  bufb_in := fun _ hc => absurd hc List.not_mem_nil
  omem_in := fun _ hc => absurd hc List.not_mem_nil

/-! ## Updates of registers -/

theorem Inv.complete {s : State} (h : Inv s) (hfault : s.fault = false) : Inv s.complete :=
  { h with fault_pc := fun hf => absurd (hfault.symm.trans hf) (by decide) }

theorem Inv.setHalt {s : State} (h : Inv s) (hfault : s.fault = false) : Inv s.setHalt :=
  { h with one_end := fun hend => absurd (hfault.symm.trans hend.2) (by decide) }

theorem Inv.setLd {s : State} (h : Inv s) {v : Nat} (hv : v ≤ s.nmax) : Inv (s.setLd v) :=
  { h with ld_le := (Nat.mod_le v _).trans hv }

theorem Inv.setLi {s : State} (h : Inv s) {v : Nat} (hv : v ≤ s.nmax) : Inv (s.setLi v) :=
  { h with li_le := (Nat.mod_le v _).trans hv }

theorem Inv.setK {s : State} (h : Inv s) {v : Nat} (hv : v ≤ s.kmax.val) : Inv (s.setK v) :=
  { h with k_le := (Nat.mod_le v _).trans hv }

theorem Inv.setOlen {s : State} (h : Inv s) {v : Nat} (hv : v ≤ s.nmax) : Inv (s.setOlen v) :=
  { h with olen_le := (Nat.mod_le v _).trans hv }

theorem Inv.setPeak_setPkz {s : State} (h : Inv s) {pk : RealWord} (hnum : f64IsNaN pk = false) (hsign : f64Sign pk = false) :
    Inv ((s.setPeak pk).setPkz (f64IsZero pk)) :=
  { h with peak_number := hnum, peak_sign := hsign, pkz_zero := id }

/-- The four writes of a fault entry, on an engine that has not stopped. -/
theorem Inv.raise {s : State} (h : Inv s) (hrun : s.stopped = false) (f : FaultCode) (info : Nat) : Inv (s.raise f info) :=
  have hcode : faultCode f ≠ 0#4 ∧ (faultCode f).toNat ≤ 4 := by cases f <;> decide
  have hhalt : s.halt = false := (Bool.or_eq_false_iff.mp hrun).1
  { h with
    fcode_iff := iff_of_true hcode.1 rfl
    fcode_le := hcode.2
    no_fault_record := fun hf => Bool.noConfusion hf
    fault_pc := fun _ => rfl
    one_end := fun hend => absurd (hhalt.symm.trans hend.1) (by decide) }

theorem Inv.setOvf {s : State} (h : Inv s) (v : Bool) : Inv (s.setOvf v) := { h with }

theorem Inv.withDraws {s : State} (h : Inv s) (n : Nat) : Inv { s with draws := n } := { h with }

theorem Inv.setReply {s : State} (h : Inv s) (r : Option HostWord) : Inv (s.setReply r) := { h with }

theorem Inv.setPending {s : State} (h : Inv s) (ms : List HostMove) : Inv (s.setPending ms) := { h with }

theorem Inv.resetRegisters {s : State} (h : Inv s) : Inv s.resetRegisters :=
  { (invariantHoldsAtReset : Inv State.reset) with
    k_le := Nat.zero_le _
    ld_le := Nat.zero_le _
    li_le := Nat.zero_le _
    olen_le := Nat.zero_le _
    xmem_wf := h.xmem_wf
    hmem_wf := h.hmem_wf
    bufa_wf := h.bufa_wf
    bufb_wf := h.bufb_wf
    omem_wf := h.omem_wf
    xmem_in := h.xmem_in
    hmem_in := h.hmem_in
    bufa_in := h.bufa_in
    bufb_in := h.bufb_in
    omem_in := h.omem_in }

/-! ## Updates of memories -/

theorem Inv.setBank {s : State} (h : Inv s) {b : Buf} {d : Bank RealWord} {n : Nat} (hd : Bank.WritesBelow n (s.bank b) d)
    (hn : n ≤ 2 * s.nmax) : Inv (s.setBank b d) := by
  cases b with
  | A => exact { h with bufa_wf := hd.wf h.bufa_wf, bufa_in := hd.within _ hn h.bufa_in }
  | B => exact { h with bufb_wf := hd.wf h.bufb_wf, bufb_in := hd.within _ hn h.bufb_in }

theorem Inv.setSamples {s : State} (h : Inv s) {c : Src} {d : Bank Sample} {n : Nat} (hd : Bank.WritesBelow n (s.samples c) d)
    (hn : n ≤ s.nmax) : Inv (s.setSamples c d) := by
  cases c with
  | X => exact { h with xmem_wf := hd.wf h.xmem_wf, xmem_in := hd.within _ hn h.xmem_in }
  | H => exact { h with hmem_wf := hd.wf h.hmem_wf, hmem_in := hd.within _ hn h.hmem_in }

theorem Inv.setOutput {s : State} (h : Inv s) {d : Bank Sample} {n : Nat} (hd : Bank.WritesBelow n s.output d)
    (hn : n ≤ s.nmax) : Inv (s.setOutput d) :=
  { h with omem_wf := hd.wf h.omem_wf, omem_in := hd.within _ hn h.omem_in }

/-! ## Commands, moves and steps -/

/-- The transform length is within the capacity. -/
theorem Inv.txLen_le {s : State} (h : Inv s) : s.txLen ≤ s.nmax := Nat.pow_le_pow_right Nat.two_pos h.k_le

theorem Inv.completes {s t : State} {i : Instr} (h : Inv s) (hrun : s.stopped = false) (hdone : Completes s i t) : Inv t := by
  have hfault : s.fault = false := (Bool.or_eq_false_iff.mp hrun).2
  have hN := h.txLen_le
  cases hdone with
  | nop => exact h.complete hfault
  | halt => exact (h.setHalt hfault).complete hfault
  | setld hv => exact (h.setLd hv).complete hfault
  | setli hv => exact (h.setLi hv).complete hfault
  | setn hv => exact (h.setK hv).complete hfault
  | setk hv => exact (h.setK hv).complete hfault
  | buffer n _ hd => exact ((h.setBank hd (by omega)).withDraws n).complete (by simpa using hfault)
  | peak hpk => exact (h.setPeak_setPkz hpk.number hpk.sign).complete hfault
  | normZero => exact h.complete hfault
  | render _ hfits ho =>
    have hL := hfits.trans hN
    exact ((((h.setOutput ho hL).setOvf _).setOlen hL).withDraws _).complete hfault

theorem Inv.commandPort {w : Word} {s t : State} (h : Inv s) (ht : commandPort w s = .next t) : Inv t := by
  cases hrun : s.stopped
  case true =>
    cases (commandPort_of_stopped hrun w).symm.trans ht
    exact h
  case false =>
    cases hw : decode w with
    | ok i =>
      obtain ⟨f, info, -, rfl⟩ | hdone := exec_next_cases ((commandPort_of_decode hrun hw).symm.trans ht)
      · exact h.raise hrun f info
      · exact h.completes hrun hdone
    | error e =>
      cases (commandPort_of_illegal hrun hw).symm.trans ht
      exact h.raise hrun _ _

theorem Inv.hostWrite {s : State} (h : Inv s) (sp a : Nat) (v : HostWord) : Inv (hostWrite s sp a v) := by
  obtain hw | ⟨c, x, -, -, ha, hw⟩ | ⟨b, x, -, -, ha, hw⟩ := hostWrite_cases s sp a v <;> rw [hw]
  · exact h
  · exact h.setSamples (Bank.writesBelow_write _ x a.lt_succ_self) ha
  · exact h.setBank (Bank.writesBelow_write _ x a.lt_succ_self) ha

/-- The words of a footprint lie inside the memory they belong to. -/
def Footprint.Inside (f : Footprint) (s : State) : Prop :=
  match f with
  | .nothing => True
  | .buffer _ n => n ≤ 2 * s.nmax
  | .outputs n => n ≤ s.nmax

theorem Inv.footprint_inside {s : State} (h : Inv s) (i : Instr) : (footprint i s).Inside s := by
  have hbuf (b : Buf) : (Footprint.buffer b (2 * s.txLen)).Inside s := Nat.mul_le_mul_left 2 h.txLen_le
  cases i with
  | nop | halt | setld | setli | setn | setk | peak => exact trivial
  | bitrev b | bfly b | fft b | cmul b | scale b => exact hbuf b
  | prep b =>
    rw [footprint]
    split
    · exact hbuf b
    · exact trivial
  | norm b =>
    rw [footprint]
    split
    · exact trivial
    · exact hbuf b
  | render b =>
    rw [footprint]
    split
    case isTrue hfits =>
      simp only [Bool.and_eq_true, decide_eq_true_eq] at hfits
      exact hfits.2.trans h.txLen_le
    case isFalse => exact trivial

theorem Inv.havoc {s : State} (h : Inv s) {f : Footprint} (hf : f.Inside s) : Inv (s.havoc f) := by
  cases f with
  | nothing => exact h
  | buffer b n => exact h.setBank (havocWords_writesBelow _ n _) hf
  | outputs n => exact h.setOutput (havocWords_writesBelow _ n _) hf

theorem Inv.resetDuring {s : State} (h : Inv s) (w : Word) : Inv (resetDuring w s) := by
  obtain ⟨f, ht, hf⟩ := resetDuring_eq w s
  have hinside : f.Inside s := by
    obtain rfl | ⟨i, -, -, rfl⟩ := hf
    · exact trivial
    · exact h.footprint_inside i
  rw [ht]
  exact ((h.havoc hinside).withDraws _).resetRegisters

theorem Inv.applyMove {m : HostMove} {s t : State} (h : Inv s) (ht : applyMove m s = .next t) : Inv t := by
  cases m with
  | command w => exact h.commandPort ht
  | write sp a v => cases ht; exact h.hostWrite sp a v
  | read sp a => cases ht; exact h.setReply _
  | reset => cases ht; exact h.resetRegisters
  | resetDuring w => cases ht; exact h.resetDuring w

/-- Settles O14: a step is one host move, and each of the five kinds keeps the invariant. -/
theorem stepKeepsInvariant : Obligations.StepKeepsInvariant := by
  intro s t h ht
  cases hp : s.pending with
  | nil =>
    cases (step_of_idle hp).symm.trans ht
    exact h
  | cons m ms => exact (h.setPending ms).applyMove ((step_of_cons hp).symm.trans ht)

/-- Settles O15: power-up leaves the registers as a reset does, and the memories empty. -/
theorem resetRegistersReadZero : Obligations.ResetRegistersReadZero :=
  ⟨fun _ hr => registerPort_resetRegisters State.reset hr, rfl, rfl, rfl, rfl, rfl, rfl⟩

end Sys2Proof.Machine

/-! Butterflies of one stage commute, and FFT is BITREV followed by BFLY (spec rules R132, R138). -/

namespace Sys2Proof.Machine

variable {F : Type}

/-- Two banks that agree on every position agree on every word. -/
theorem Bank.read_eq_of_position_eq {d e : Bank F} (h : ∀ p, e.position p = d.position p) (a : Nat) : e.read a = d.read a := by
  rw [Bank.read_eq_position, Bank.read_eq_position, h]

/-- A butterfly with upper entry u leaves every position but u and u + h alone. -/
theorem butterflyAt_position_ne (A : Arith F) (stage h : Nat) (w : F × F) (d : Bank F) {u q : Nat} (hq : q ≠ u ∧ q ≠ u + h) :
    (butterflyAt A stage (2 * h) w d (2 * u + 1)).position q = d.position q := by
  rw [butterflyAt_position, if_neg hq.1, if_neg hq.2]

/-- What a butterfly leaves in its two positions depends on these two only. -/
theorem butterflyAt_position_congr (A : Arith F) (stage h : Nat) (w : F × F) {d e : Bank F} {u q : Nat}
    (hu : e.position u = d.position u) (hl : e.position (u + h) = d.position (u + h)) (hq : e.position q = d.position q) :
    (butterflyAt A stage (2 * h) w e (2 * u + 1)).position q = (butterflyAt A stage (2 * h) w d (2 * u + 1)).position q := by
  rw [butterflyAt_position, butterflyAt_position, hu, hl, hq]

/-- Butterflies on disjoint pairs of positions give the same positions in either order. -/
theorem butterflyAt_comm_position (A : Arith F) (stage h : Nat) (w w' : F × F) (d : Bank F) {u u' : Nat}
    (hdisj : ∀ q, (q = u ∨ q = u + h) → q ≠ u' ∧ q ≠ u' + h) (q : Nat) :
    (butterflyAt A stage (2 * h) w' (butterflyAt A stage (2 * h) w d (2 * u + 1)) (2 * u' + 1)).position q =
      (butterflyAt A stage (2 * h) w (butterflyAt A stage (2 * h) w' d (2 * u' + 1)) (2 * u + 1)).position q := by
  have hupper := butterflyAt_position_ne A stage h w' d (hdisj u (.inl rfl))
  have hlower := butterflyAt_position_ne A stage h w' d (hdisj _ (.inr rfl))
  by_cases hq : q = u ∨ q = u + h
  · rw [butterflyAt_position_ne A stage h w' _ (hdisj q hq)]
    exact (butterflyAt_position_congr A stage h w hupper hlower (butterflyAt_position_ne A stage h w' d (hdisj q hq))).symm
  · have hout (p : Nat) (hp : p = u' ∨ p = u' + h) : p ≠ u ∧ p ≠ u + h :=
      not_or.mp fun hpu => hp.elim (hdisj p hpu).1 (hdisj p hpu).2
    rw [butterflyAt_position_ne A stage h w _ (not_or.mp hq)]
    exact butterflyAt_position_congr A stage h w' (butterflyAt_position_ne A stage h w d (hout _ (.inl rfl)))
      (butterflyAt_position_ne A stage h w d (hout _ (.inr rfl))) (butterflyAt_position_ne A stage h w d (not_or.mp hq))

/-- Settles O40: a position belongs to one butterfly of the stage, so two different butterflies have disjoint pairs. -/
theorem butterfliesOfAStageCommute : Obligations.ButterfliesOfAStageCommute := by
  intro F A S c r c' r' w w' d hS hr hr' hne a
  obtain ⟨S, rfl⟩ : ∃ S', S = S' + 1 := ⟨S - 1, by omega⟩
  rw [Nat.add_sub_cancel] at hr hr'
  refine Bank.read_eq_of_position_eq (fun q => ?_) a
  rw [pow_succ']
  refine butterflyAt_comm_position A _ _ w w' d (fun q hq => not_or.mp fun hq' => hne ?_) q
  have heq := (butterflyOf_touched hr hq).symm.trans (butterflyOf_touched hr' hq')
  rw [Prod.mk.injEq] at heq ⊢
  exact heq.symm

/-- Two buffers put back one after the other, with the count of both commands: only the second and the count are seen. -/
theorem State.setBank_complete_setBank_complete (s : State) (b : Buf) (d e : Bank RealWord) :
    (s.setBank b e).drawn.complete = { ((s.setBank b d).complete.setBank b e).drawn.complete with cmdcnt := s.cmdcnt + 1#32 } ∧
      ((s.setBank b d).complete.setBank b e).drawn.complete.cmdcnt = s.cmdcnt + 2#32 := by
  have hcount : s.cmdcnt + 1#32 + 1#32 = s.cmdcnt + 2#32 := BitVec.add_assoc _ _ _
  cases b <;> exact ⟨rfl, hcount⟩

/-- Settles O41: BFLY runs with the draws, the length and the bit-reversed buffer that FFT gives its own stages. -/
theorem fftIsBitrevThenBfly : Obligations.FftIsBitrevThenBfly := by
  intro b sgn s
  have hfft := fftBank_writesBelow (binary64 s.draws) s.kNat sgn (s.bank b)
  have hbitrev : (s.setBank b (bitrevBank s.kNat (s.bank b))).complete.bank b = bitrevBank s.kNat (s.bank b) := by
    rw [State.complete_bank, State.setBank_bank_of_writesBelow s b (bitrevBank_writesBelow _ _)]
  obtain ⟨hstate, hcount⟩ := s.setBank_complete_setBank_complete b (bitrevBank s.kNat (s.bank b))
    (fftBank (binary64 s.draws) s.kNat sgn (s.bank b))
  refine ⟨_, _, _, rfl, ?_, hcount, rfl, hstate, bufferFrame_setBank s b hfft _⟩
  rw [exec, execBfly, hbitrev, State.complete_draws, State.setBank_draws, State.complete_kNat, State.setBank_kNat, fftBank]

end Sys2Proof.Machine

/-! A buffer of zeros renders as zeros (spec rule R187). -/

namespace Sys2Proof.Machine

theorem f64Abs_of_zero {x : RealWord} (h : f64IsZero x = true) : f64Abs x = 0x0000000000000000#64 := by
  obtain rfl | rfl := (f64IsZero_iff x).mp h
  · decide
  · decide

theorem f64ToInt_of_zero {x : RealWord} (h : f64IsZero x = true) : f64ToInt x = some 0 := by
  rw [f64ToInt, if_pos (f64IsFinite_of_isZero h), (f64Int_eq_zero_iff x).mpr h, Int.zero_tdiv]

/-- The sample of a zero before rounding to 16 bits is 0. -/
theorem f64ToInt_sample_of_zero (nan : RealWord) {x : RealWord} (h : f64IsZero x = true) :
    f64ToInt (f64Mul nan x 0x40E0000000000000#64) = some 0 :=
  f64ToInt_of_zero (f64Mul_zero_left nan h (by decide))

/-- Settles O48: the peak of zeros is +0.0, which idles NORM, and each sample of RENDER is that of a zero. -/
theorem zeroBufferRendersZeros : Obligations.ZeroBufferRendersZeros := by
  intro b s hzero hld hli hfits
  obtain ⟨t, ht, hrest, -, -, hattained, -, -, hpkz⟩ := peakFindsTheLargestRealPart b s
  obtain ⟨hbank, -⟩ := exec_peak_keeps ht
  have hpeak : t.peak = 0x0000000000000000#64 := hattained.elim id fun ⟨e, h1, he, hr⟩ => by
    rw [hr, f64Abs_of_zero (hzero _ (by omega) (by omega))]
  have hpeak0 : f64IsZero t.peak = true := by rw [hpeak]; decide
  have hlens : t.complete.ld = s.ld ∧ t.complete.li = s.li := ⟨(congrArg State.ld hrest :), (congrArg State.li hrest :)⟩
  have hL : t.complete.convLen = s.convLen := (congrArg State.convLen hrest :)
  have hN : t.complete.txLen = s.txLen := (congrArg State.txLen hrest :)
  have hsample (k : Nat) (hk : k < s.convLen) :
      f64ToInt ((binary64 t.complete.draws).fmul [k] ((t.complete.bank b).position k).1 0x40E0000000000000#64) = some 0 := by
    rw [State.complete_bank, hbank]
    exact f64ToInt_sample_of_zero _ (hzero (2 * k + 1) (by omega) (by omega))
  obtain ⟨-, -, hrender⟩ := renderEncodesTheSamples b t.complete
  obtain ⟨v, hv, -, -, holen, -, hword, hovf, -⟩ := hrender (hlens.1 ▸ hld) (hlens.2 ▸ hli) (by rwa [hL, hN])
  rw [hL] at holen hword hovf
  refine ⟨t, t.complete, v, ht, hpeak, hpkz.trans hpeak0, exec_norm_of_zero b hpeak0, rfl, hv, ?_, holen,
    fun k hk => hword k hk 0 (hsample k hk)⟩
  rw [Bool.eq_false_iff, ne_eq, hovf]
  rintro ⟨k, hk, hout⟩
  exact absurd (hout 0 (hsample k hk)) (by decide)

end Sys2Proof.Machine

/-! The conversion of a 16-bit sample to binary64 is exact (spec rules R105, R154). -/

namespace Sys2Proof.Machine

/-- A quotient that is a magnitude of binary64 is not rounded. -/
theorem f64Div_exact (nan : RealWord) {x y : RealWord} (hx : f64IsFinite x = true) (hy : f64IsFinite y = true)
    (hy0 : f64IsZero y = false) {q e : Nat} (h : Canonical q e) (hquot : f64Mag x * f64One = q * 2 ^ e * f64Mag y) :
    f64IsFinite (f64Div nan x y) = true ∧ f64Mag (f64Div nan x y) = q * 2 ^ e ∧
      f64Sign (f64Div nan x y) = (f64Sign x != f64Sign y) := by
  rw [f64Div_of_finite nan hx hy hy0, hquot, h.roundUnits_eq (f64Mag_pos hy0)]
  exact ⟨f64IsFinite_pack _ h.bits_lt, h.f64Mag_pack _, f64Sign_pack _ (h.bits_lt.trans f64InfMag_lt)⟩

theorem f64Mag_32768 : f64Mag 0x40E0000000000000#64 = 2 ^ 15 * f64One := by decide +kernel

theorem f64Int_mul_of_f64Mag_mul {x y : RealWord} (hs : f64Sign x = f64Sign y) {c : Nat} (h : f64Mag x * c = f64Mag y) :
    f64Int x * c = f64Int y := by
  rw [f64Int, f64Int, hs, ← h]
  split <;> simp

/-- An integer of at most 53 bits divided by 32768.0 has 2^-15 of its units, which is 2^1059 for 1. -/
theorem f64Div_f64OfInt_32768 (nan : RealWord) {n : Int} (h : n.natAbs ≤ 2 ^ 53) :
    f64IsFinite (f64Div nan (f64OfInt n) 0x40E0000000000000#64) = true ∧
      f64Int (f64Div nan (f64OfInt n) 0x40E0000000000000#64) * (2 ^ 15 : Nat) = n * f64One := by
  obtain ⟨hfin, hint⟩ := f64OfInt_exact h
  have hunits : 2 ^ 1059 * 2 ^ 15 = f64One := by rw [f64One, ← pow_add]
  have hmag : f64Mag (f64OfInt n) = n.natAbs * f64One := by rw [← f64Int_natAbs, hint, Int.natAbs_mul, Int.natAbs_natCast]
  obtain ⟨q, e, hqe, hq⟩ : ∃ q e, Canonical q e ∧ n.natAbs * 2 ^ 1059 = q * 2 ^ e :=
    exists_canonical_of_le h (by decide) (by decide)
  have hquot : f64Mag (f64OfInt n) * f64One = q * 2 ^ e * f64Mag 0x40E0000000000000#64 := by
    rw [hmag, f64Mag_32768, ← hq, ← mul_assoc, mul_assoc n.natAbs (2 ^ 1059), hunits]
  obtain ⟨hdfin, hdmag, hdsign⟩ := f64Div_exact nan hfin (by decide) (by decide) hqe hquot
  have hsign : f64Sign (0x40E0000000000000#64) = false := by decide
  rw [hsign, Bool.bne_false] at hdsign
  refine ⟨hdfin, ?_⟩
  rw [← hint]
  exact f64Int_mul_of_f64Mag_mul hdsign (by rw [hdmag, hmag, ← hq, mul_assoc, hunits])

/-- Settles O35: a sample has at most 16 bits. -/
theorem pcmConversionIsExact : Obligations.PcmConversionIsExact := by
  intro nan w
  have hbits : w.toInt.natAbs ≤ 2 ^ 53 := by
    have hlo := w.le_toInt
    have hhi := w.toInt_lt
    omega
  obtain ⟨hfin, hint⟩ := f64Div_f64OfInt_32768 nan hbits
  refine ⟨hfin, ?_⟩
  have hone : (f64One : ℚ) ≠ 0 := Nat.cast_ne_zero.mpr f64One_pos.ne'
  have hq : (f64Int (f64Div nan (f64OfInt w.toInt) 0x40E0000000000000#64) : ℚ) * 32768 = w.toInt * f64One := by
    exact_mod_cast hint
  rw [f64Value_eq_div, div_eq_div_iff hone (by norm_num), hq]

end Sys2Proof.Machine

/-! The special results of the four operations (spec rule R100). -/

namespace Sys2Proof.Machine

/-! ## Quiet NaNs -/

theorem f64IsQuietNaN_quietNaN (free : BitVec 52) : f64IsQuietNaN (f64QuietNaN free) = true := by
  have hbit : (f64QuietNaN free).getLsbD 51 = true := by
    rw [f64QuietNaN, BitVec.getLsbD_append, if_neg (lt_irrefl 51), Nat.sub_self, BitVec.getLsbD_append, if_pos (by decide)]
    rfl
  rw [f64IsQuietNaN, f64IsNaN_quietNaN, hbit, Bool.and_self]

theorem f64IsQuietNaN_nanAt (draw : Nat) (site : Site) : f64IsQuietNaN (nanAt draw site) = true := f64IsQuietNaN_quietNaN _

section
variable (nan : RealWord) {x y : RealWord}

theorem f64Add_of_nan (h : f64IsNaN x = true ∨ f64IsNaN y = true) : f64Add nan x y = nan := if_pos (Bool.or_eq_true_iff.mpr h)

theorem f64Sub_of_nan (h : f64IsNaN x = true ∨ f64IsNaN y = true) : f64Sub nan x y = nan :=
  f64Add_of_nan nan (by rwa [f64IsNaN_neg])

theorem f64Mul_of_nan (h : f64IsNaN x = true ∨ f64IsNaN y = true) : f64Mul nan x y = nan := if_pos (Bool.or_eq_true_iff.mpr h)

theorem f64Div_of_nan (h : f64IsNaN x = true ∨ f64IsNaN y = true) : f64Div nan x y = nan := if_pos (Bool.or_eq_true_iff.mpr h)

/-! ## Infinities with infinities and zeros -/

theorem f64Add_inf_inf (hx : f64IsInf x = true) (hy : f64IsInf y = true) (hs : f64Sign x ≠ f64Sign y) : f64Add nan x y = nan := by
  simp [f64Add, hx, hy, hs]

theorem f64Sub_inf_inf (hx : f64IsInf x = true) (hy : f64IsInf y = true) (hs : f64Sign x = f64Sign y) : f64Sub nan x y = nan :=
  f64Add_inf_inf nan hx (by rwa [f64IsInf_neg]) (by simp [hs])

theorem f64Div_inf_inf (hx : f64IsInf x = true) (hy : f64IsInf y = true) : f64Div nan x y = nan := by
  simp [f64Div, hx, hy]

theorem f64Mul_zero_inf (hx : f64IsZero x = true) (hy : f64IsInf y = true) : f64Mul nan x y = nan := by
  simp [f64Mul, hx, hy]

/-! ## Zeros -/

theorem f64Div_zero_zero (hx : f64IsZero x = true) (hy : f64IsZero y = true) : f64Div nan x y = nan := by
  simp [f64Div, f64IsInf_of_finite, f64IsFinite_of_isZero, hx, hy]

theorem f64Div_zero (hx : f64IsFinite x = true) (hx0 : f64IsZero x = false) (hy : f64IsZero y = true) :
    f64Div nan x y = f64Inf (f64Sign x != f64Sign y) := by
  simp [f64Div, f64IsNaN_of_finite, f64IsInf_of_finite, f64IsFinite_of_isZero, hx, hx0, hy]

theorem f64Mul_zero_finite (hx : f64IsZero x = true) (hy : f64IsFinite y = true) :
    f64Mul nan x y = f64Zero (f64Sign x != f64Sign y) := by
  rw [f64Mul_of_finite nan (f64IsFinite_of_isZero hx) hy, (f64Mag_eq_zero_iff x).mpr hx, zero_mul, roundUnits_zero f64One_pos,
    f64Zero]

theorem f64Div_zero_finite (hx : f64IsZero x = true) (hy : f64IsFinite y = true) (hy0 : f64IsZero y = false) :
    f64Div nan x y = f64Zero (f64Sign x != f64Sign y) := by
  rw [f64Div_of_finite nan (f64IsFinite_of_isZero hx) hy hy0, (f64Mag_eq_zero_iff x).mpr hx, zero_mul,
    roundUnits_zero (f64Mag_pos hy0), f64Zero]

theorem f64Sub_self (hx : f64IsFinite x = true) : f64Sub nan x x = 0#64 := by
  rw [f64Sub, f64Add_comm, f64Add_neg_self nan hx]

theorem f64Add_zeros (hx : f64IsZero x = true) (hy : f64IsZero y = true) : f64Add nan x y = f64Zero (f64Sign x && f64Sign y) := by
  rw [f64Add_of_finite nan (f64IsFinite_of_isZero hx) (f64IsFinite_of_isZero hy), (f64Int_eq_zero_iff x).mpr hx,
    (f64Int_eq_zero_iff y).mpr hy, add_zero, if_pos rfl]

end

theorem f64IsInf_f64Inf (neg : Bool) : f64IsInf (f64Inf neg) = true ∧ f64Sign (f64Inf neg) = neg := by cases neg <;> decide

theorem f64Sign_f64Zero (neg : Bool) : f64Sign (f64Zero neg) = neg := f64Sign_pack neg (by decide)

/-- Settles O50: each special case of the four operations, the NaN of an operation being quiet. -/
theorem specialResultsAreIeee : Obligations.SpecialResultsAreIeee := by
  intro draw site x y
  have quiet {r : RealWord} (h : r = nanAt draw site) : f64IsQuietNaN r = true := h ▸ f64IsQuietNaN_nanAt draw site
  have inf {r : RealWord} {neg : Bool} (h : r = f64Inf neg) : f64IsInf r = true ∧ f64Sign r = neg := h ▸ f64IsInf_f64Inf neg
  have zero {r : RealWord} {neg : Bool} (h : r = f64Zero neg) : f64IsZero r = true ∧ f64Sign r = neg :=
    h ▸ ⟨f64IsZero_f64Zero neg, f64Sign_f64Zero neg⟩
  refine ⟨fun h => ⟨quiet (f64Add_of_nan _ h), quiet (f64Sub_of_nan _ h), quiet (f64Mul_of_nan _ h), quiet (f64Div_of_nan _ h)⟩,
    fun hx hy => ⟨quiet (f64Div_inf_inf _ hx hy), fun hs => quiet (f64Sub_inf_inf _ hx hy hs),
      fun hs => quiet (f64Add_inf_inf _ hx hy hs)⟩,
    fun hx hy => ⟨quiet (f64Mul_zero_inf _ hx hy), quiet ((f64Mul_comm _ y x).trans (f64Mul_zero_inf _ hx hy))⟩,
    fun hx hy => quiet (f64Div_zero_zero _ hx hy), fun hx hx0 hy => inf (f64Div_zero _ hx hx0 hy), fun hx hy => ?_,
    fun hx => f64Sub_self _ hx, ?_, ?_⟩
  · obtain ⟨hmul, hmulSign⟩ := zero (f64Mul_zero_finite (nanAt draw site) hx hy)
    exact ⟨hmul, hmulSign, fun hy0 => zero (f64Div_zero_finite _ hx hy hy0)⟩
  · have hsum := f64Add_zeros (nanAt draw site) (x := 0#64) (y := 0x8000000000000000#64) (by decide) (by decide)
    exact hsum.trans (by decide)
  · have hsum := f64Add_zeros (nanAt draw site) (x := 0x8000000000000000#64) (y := 0x8000000000000000#64) (by decide) (by decide)
    exact hsum.trans (by decide)

end Sys2Proof.Machine

/-! Linear convolution of zero-padded sequences (spec rules R154, R173, R210, R212). -/

namespace Sys2Proof.Machine

open Finset

/-! ## Circular and linear convolution (rules R172, R210) -/

/-- The shifted index of a circular convolution, without and with the wrap. -/
theorem circularIndex_eq {n m p : Nat} (hm : m < n) (hp : p < n) : (m + (n - p)) % n = if p ≤ m then m - p else m + n - p := by
  split
  · rw [show m + (n - p) = m - p + n by omega, Nat.add_mod_right, Nat.mod_eq_of_lt (by omega)]
  · rw [Nat.mod_eq_of_lt (by omega)]
    omega

/-- Sequences that are zero from ld and from li on, with ld + li − 1 ≤ n, do not wrap around. -/
theorem circularConv_of_support {n ld li m : Nat} {x h : Nat → ℂ} (hx : ∀ p < n, ld ≤ p → x p = 0)
    (hh : ∀ p < n, li ≤ p → h p = 0) (hli : 1 ≤ li) (hfits : ld + li - 1 ≤ n) (hm : m < n) :
    circularConv n x h m = ∑ p ∈ Icc (m + 1 - li) (min m (ld - 1)), x p * h (m - p) := by
  have hsub : Icc (m + 1 - li) (min m (ld - 1)) ⊆ range n := fun p hp => by
    have := mem_Icc.mp hp
    exact mem_range.mpr (by omega)
  have hout (p : Nat) (hp : p ∈ range n) (hnot : p ∉ Icc (m + 1 - li) (min m (ld - 1))) : x p * h ((m + (n - p)) % n) = 0 := by
    rw [mem_range] at hp
    rw [mem_Icc] at hnot
    by_cases hpx : ld ≤ p
    · rw [hx p hp hpx, zero_mul]
    · rw [circularIndex_eq hm hp]
      split
      · rw [hh _ (by omega) (by omega), mul_zero]
      · rw [hh _ (by omega) (by omega), mul_zero]
  rw [circularConv, ← sum_subset hsub hout]
  refine sum_congr rfl fun p hp => ?_
  have hpm := mem_Icc.mp hp
  rw [circularIndex_eq hm (by omega), if_pos (by omega)]

/-! ## Prepared buffers (rules R154, R212) -/

/-- A prepared buffer under exact arithmetic: the samples over 32768, then zeros. -/
theorem IsExact.prepBank_entry {A : Arith ℝ} (hA : IsExact A) {k len : Nat} {src : Bank Sample} {x : Nat → ℂ}
    (hx : IsSampleSeq src len x) (d : Bank ℝ) {p : Nat} (hp : p < 2 ^ k) :
    (prepBank A k len src d).entry p = if p < len then x p else 0 := by
  rw [Bank.entry_eq, prepBank_position]
  by_cases hlen : p < len
  · rw [if_neg (by omega), if_pos hlen, if_pos hlen, hx p hlen, convertSample, hA.fdiv, hA.i2f, hA.c32768, hA.zero]
    apply Complex.ext <;> simp [toComplex]
  · rw [if_pos (by omega), if_neg hlen, hA.zero]
    rfl

/-- Settles O59: the pipeline leaves the circular convolution of the prepared buffers, which their padding keeps from wrapping
around. -/
theorem pipelineComputesLinearConvolution : Obligations.PipelineComputesLinearConvolution := by
  rintro A hA k ld li hld hli hfits xs hs da db x h hx hh _ rfl
  have hX (p : Nat) (hp : p < 2 ^ k) := hA.prepBank_entry hx da hp
  have hH (p : Nat) (hp : p < 2 ^ k) := hA.prepBank_entry hh db hp
  have hsgn : Sgn.plus ≠ .minus := by decide
  have hentry (m : Nat) (hm : m < 2 ^ k) :=
    (hA.pipeline_entry k hsgn (prepBank A k ld xs da) (prepBank A k li hs db) hm).trans
      (circularConv_of_support (fun p hp hlen => by rw [hX p hp, if_neg (by omega)])
        (fun p hp hlen => by rw [hH p hp, if_neg (by omega)]) hli hfits hm)
  refine ⟨fun j hj => ?_, fun m hlen hm => ?_⟩
  · rw [hentry j (by omega)]
    refine sum_congr rfl fun p hp => ?_
    have hpj := mem_Icc.mp hp
    rw [hX p (by omega), hH _ (by omega), if_pos (by omega), if_pos (by omega)]
  · rw [hentry m hm, Icc_eq_empty (by omega), sum_empty]

end Sys2Proof.Machine

/-! Each operation rounds the exact result once, to nearest with ties to even (spec rule R100). -/

namespace Sys2Proof.Machine

/-! ## The nearest multiple of a quantum -/

/-- The distance of a whole number from n / d, in units of 1 / d. -/
def distUnits (n d : Nat) (k : Int) : Nat := (k * d - n).natAbs

/-- The distance by how far the whole number lies from the floor of n / d. -/
theorem distUnits_floor_add (n d : Nat) (j : Int) : distUnits n d ((n / d : Nat) + j) = (j * d - (n % d : Nat)).natAbs := by
  have hsplit : ((n / d : Nat) : Int) * d + (n % d : Nat) = n := by exact_mod_cast Nat.div_add_mod' n d
  rw [distUnits, add_mul, ← hsplit]
  congr 1
  ring

/-- `roundEven n d` is as near to n / d as any integer is, and the even one of two that are as near. -/
theorem roundEven_nearest (n : Nat) {d : Nat} (hd : 0 < d) (k : Int) :
    distUnits n d (roundEven n d) ≤ distUnits n d k ∧
      (distUnits n d (roundEven n d) = distUnits n d k → k ≠ roundEven n d → roundEven n d % 2 = 0) := by
  have hmod := Nat.mod_lt n hd
  obtain ⟨j, rfl⟩ : ∃ j : Int, k = (n / d : Nat) + j := ⟨k - (n / d : Nat), by ring⟩
  have hj : j = 0 ∨ j = 1 ∨ j * d ≤ -1 * d ∨ 2 * d ≤ j * d := by
    obtain h | h | h | h : j = 0 ∨ j = 1 ∨ j ≤ -1 ∨ 2 ≤ j := by omega
    · exact .inl h
    · exact .inr (.inl h)
    · exact .inr (.inr (.inl (Int.mul_le_mul_of_nonneg_right h (Int.natCast_nonneg d))))
    · exact .inr (.inr (.inr (Int.mul_le_mul_of_nonneg_right h (Int.natCast_nonneg d))))
  have hround : (roundEven n d = n / d ∧ 2 * (n % d) < d) ∨ (roundEven n d = n / d + 1 ∧ d < 2 * (n % d)) ∨
      (roundEven n d % 2 = 0 ∧ 2 * (n % d) = d ∧ (roundEven n d = n / d ∨ roundEven n d = n / d + 1)) := by
    rw [roundEven]
    split_ifs <;> omega
  have hdist : distUnits n d (roundEven n d) = min (n % d) (d - n % d) := by
    have hfloor := distUnits_floor_add n d 0
    have hceil := distUnits_floor_add n d 1
    rw [add_zero] at hfloor
    obtain ⟨heq, hlt⟩ | ⟨heq, hgt⟩ | ⟨-, htie, heq | heq⟩ := hround
    · rw [heq, hfloor]; omega
    · rw [heq, Nat.cast_succ, hceil]; omega
    · rw [heq, hfloor]; omega
    · rw [heq, Nat.cast_succ, hceil]; omega
  rw [distUnits_floor_add, hdist]
  obtain rfl | rfl | hj | hj := hj <;> omega

theorem div_le_roundEven (n d : Nat) : n / d ≤ roundEven n d := by
  rw [roundEven]
  split_ifs <;> omega

/-- The midpoint of the two largest significands decides whether a significand is carried to 2^53. -/
theorem roundEven_lt_iff {n d : Nat} (hd : 0 < d) (hn : n < 2 ^ 53 * d) :
    roundEven n d < 2 ^ 53 ↔ 2 * n < (2 ^ 54 - 1) * d := by
  have hdiv : n / d < 2 ^ 53 := (Nat.div_lt_iff_lt_mul hd).mpr hn
  have hmod := Nat.mod_lt n hd
  have hsplit := Nat.div_add_mod' n d
  obtain hlt | heq : n / d < 2 ^ 53 - 1 ∨ n / d = 2 ^ 53 - 1 := by omega
  · have hle : n / d * d ≤ (2 ^ 53 - 2) * d := Nat.mul_le_mul_right d (by omega)
    rw [roundEven]
    split_ifs <;> omega
  · rw [heq] at hsplit
    rw [roundEven, heq]
    split_ifs <;> omega

/-! ## The quantum of a magnitude -/

/-- The shift of `roundUnits`: the quantum of n / d units is 2^shift units. -/
def quantumShift (n d : Nat) : Nat := (n / d).log2 - 52

theorem roundUnits_eq_min (n d : Nat) :
    roundUnits n d = min (quantumShift n d * 2 ^ 52 + roundEven n (d * 2 ^ quantumShift n d)) f64InfMag := rfl

/-- A magnitude has at most 53 bits above its quantum. -/
theorem lt_of_quantumShift (n : Nat) {d : Nat} (hd : 0 < d) : n < 2 ^ 53 * (d * 2 ^ quantumShift n d) :=
  calc n < 2 ^ ((n / d).log2 + 1) * d := (Nat.div_lt_iff_lt_mul hd).mp Nat.lt_log2_self
    _ ≤ 2 ^ (53 + quantumShift n d) * d :=
      Nat.mul_le_mul_right d (Nat.pow_le_pow_right Nat.two_pos (by rw [quantumShift]; omega))
    _ = 2 ^ 53 * (d * 2 ^ quantumShift n d) := by rw [pow_add]; ring

/-- Above the subnormals it has 53 bits. -/
theorem le_of_quantumShift_pos {n d : Nat} (h : 0 < quantumShift n d) : 2 ^ 52 * (d * 2 ^ quantumShift n d) ≤ n := by
  have hlog : 52 + quantumShift n d = (n / d).log2 := by rw [quantumShift] at h ⊢; omega
  have hpos : n / d ≠ 0 := fun h0 => by rw [quantumShift, h0] at h; exact absurd h (by decide)
  calc 2 ^ 52 * (d * 2 ^ quantumShift n d) = d * 2 ^ (n / d).log2 := by rw [← hlog, pow_add]; ring
    _ ≤ d * (n / d) := Nat.mul_le_mul_left d (Nat.log2_self_le hpos)
    _ ≤ n := Nat.mul_div_le n d

/-- The quantum from a bound of the magnitude. -/
theorem quantumShift_le {n d E : Nat} (hd : 0 < d) (h : n < 2 ^ (53 + E) * d) : quantumShift n d ≤ E := by
  have hlog : (n / d).log2 < 53 + E := by
    obtain h0 | hpos := Nat.eq_zero_or_pos (n / d)
    · rw [h0, Nat.log2_zero]
      omega
    · exact (Nat.log2_lt hpos.ne').mpr ((Nat.div_lt_iff_lt_mul hd).mpr h)
  rw [quantumShift]
  omega

theorem le_quantumShift {n d E : Nat} (hd : 0 < d) (h : 2 ^ (52 + E) * d ≤ n) : E ≤ quantumShift n d := by
  have hlog : 52 + E ≤ (n / d).log2 := by
    have hdiv : 2 ^ (52 + E) ≤ n / d := (Nat.le_div_iff_mul_le hd).mpr h
    exact (Nat.le_log2 ((Nat.two_pow_pos _).trans_le hdiv).ne').mpr hdiv
  rw [quantumShift]
  omega

/-! ## Rounding to a magnitude -/

/-- The midpoint of the largest finite magnitude and that of 2^1024, in units: (2^54 − 1)·2^2044. -/
def overflowUnits : Nat := (2 ^ 54 - 1) * 2 ^ 2044

/-- The multiple of the quantum that rounding picks. -/
def roundedSig (n d : Nat) : Nat := roundEven n (d * 2 ^ quantumShift n d)

theorem roundedSig_le (n : Nat) {d : Nat} (hd : 0 < d) : roundedSig n d ≤ 2 ^ 53 :=
  roundEven_le_of_le_mul (Nat.mul_pos hd (Nat.two_pow_pos _)) (lt_of_quantumShift n hd).le

theorem le_roundedSig {n d : Nat} (hd : 0 < d) (h : 0 < quantumShift n d) : 2 ^ 52 ≤ roundedSig n d :=
  ((Nat.le_div_iff_mul_le (Nat.mul_pos hd (Nat.two_pow_pos _))).mpr (le_of_quantumShift_pos h)).trans (div_le_roundEven _ _)

/-- At the last shift of a finite magnitude the midpoint is that of the two largest significands. -/
theorem lt_overflowUnits_iff {n d : Nat} (hd : 0 < d) (hshift : quantumShift n d = 2045) :
    n < overflowUnits * d ↔ roundedSig n d < 2 ^ 53 := by
  have hcarry := roundEven_lt_iff (Nat.mul_pos hd (Nat.two_pow_pos _)) (lt_of_quantumShift n hd)
  have hmid : (2 ^ 54 - 1) * (d * 2 ^ quantumShift n d) = 2 * (overflowUnits * d) := by
    rw [overflowUnits, hshift, pow_succ' 2 2044]
    generalize 2 ^ 2044 = P
    ring
  rw [roundedSig, hcarry, hmid, Nat.mul_lt_mul_left Nat.two_pos]

theorem quantumShift_of_lt_overflow {n d : Nat} (hd : 0 < d) (h : n < overflowUnits * d) : quantumShift n d ≤ 2045 := by
  refine quantumShift_le hd (h.trans_le (Nat.mul_le_mul_right d ?_))
  rw [overflowUnits, pow_add, pow_succ' 2 2044, ← mul_assoc]
  exact Nat.mul_le_mul_right _ (by decide)

theorem quantumShift_of_overflow {n d : Nat} (hd : 0 < d) (h : overflowUnits * d ≤ n) : 2045 ≤ quantumShift n d := by
  refine le_quantumShift hd (le_trans (Nat.mul_le_mul_right d ?_) h)
  rw [overflowUnits, pow_add, pow_succ' 2 2044, ← mul_assoc]
  exact Nat.mul_le_mul_right _ (by decide)

/-- From the midpoint on the result is the infinity. -/
theorem roundUnits_of_overflow {n d : Nat} (hd : 0 < d) (h : overflowUnits * d ≤ n) : roundUnits n d = f64InfMag := by
  have hinf : f64InfMag = 2047 * 2 ^ 52 := rfl
  have hshift := quantumShift_of_overflow hd h
  rw [roundUnits_eq_min, ← roundedSig]
  refine min_eq_right ?_
  obtain hlt | heq := hshift.lt_or_eq
  · have hsig := le_roundedSig (n := n) hd (by omega)
    omega
  · have hcarry := (lt_overflowUnits_iff hd heq.symm).not.mp h.not_gt
    omega

/-- Below the midpoint the result is a finite magnitude: the multiple of the quantum that rounding picks, which is even exactly
when its canonical significand is, or is carried to the next binade. -/
theorem exists_canonical_roundUnits {n d : Nat} (hd : 0 < d) (h : n < overflowUnits * d) :
    ∃ q e, Canonical q e ∧ roundUnits n d = e * 2 ^ 52 + q ∧ q * 2 ^ e = roundedSig n d * 2 ^ quantumShift n d ∧
      (roundedSig n d % 2 = 0 → q % 2 = 0) := by
  have hshift := quantumShift_of_lt_overflow hd h
  have hnormal : quantumShift n d = 0 ∨ 2 ^ 52 ≤ roundedSig n d :=
    (Nat.eq_zero_or_pos _).imp_right (le_roundedSig hd)
  obtain hlt | heq := (roundedSig_le n hd).lt_or_eq
  · have hcan : Canonical (roundedSig n d) (quantumShift n d) := ⟨hlt, hnormal, hshift⟩
    exact ⟨_, _, hcan, min_eq_left hcan.bits_lt.le, rfl, id⟩
  · have hnot : quantumShift n d ≠ 2045 := fun hs => ((lt_overflowUnits_iff hd hs).mp h).ne heq
    have hcan : Canonical (2 ^ 52) (quantumShift n d + 1) := ⟨by decide, .inr le_rfl, by omega⟩
    have hbits : quantumShift n d * 2 ^ 52 + roundedSig n d = (quantumShift n d + 1) * 2 ^ 52 + 2 ^ 52 := by rw [heq]; omega
    refine ⟨_, _, hcan, ?_, ?_, fun _ => by decide⟩
    · rw [roundUnits_eq_min, ← roundedSig, hbits]
      exact min_eq_left hcan.bits_lt.le
    · rw [heq, two_pow_53_mul]

/-- No multiple of a quantum of binary64 with at most 53 bits is nearer, and of two that are as near rounding takes the even. -/
theorem roundedSig_nearest {n d : Nat} (hd : 0 < d) {w : Int} {q e : Nat} (hq : q < 2 ^ 53) (hw : w.natAbs = q * 2 ^ e) :
    distUnits n d (roundedSig n d * 2 ^ quantumShift n d : Nat) ≤ distUnits n d w ∧
      (distUnits n d (roundedSig n d * 2 ^ quantumShift n d : Nat) = distUnits n d w →
        w ≠ (roundedSig n d * 2 ^ quantumShift n d : Nat) → roundedSig n d % 2 = 0) := by
  have hD : 0 < d * 2 ^ quantumShift n d := Nat.mul_pos hd (Nat.two_pow_pos _)
  have hscale (k : Int) : distUnits n d (k * 2 ^ quantumShift n d) = distUnits n (d * 2 ^ quantumShift n d) k := by
    rw [distUnits, distUnits, Nat.cast_mul, Nat.cast_pow, Nat.cast_ofNat, mul_assoc, mul_comm (2 ^ _ : Int)]
  have hval : ((roundedSig n d * 2 ^ quantumShift n d : Nat) : Int) = roundedSig n d * 2 ^ quantumShift n d := by push_cast; rfl
  rw [hval, hscale]
  obtain hle | hlt := le_or_gt (quantumShift n d) e
  · obtain ⟨k, rfl⟩ : ((2 ^ quantumShift n d : Nat) : Int) ∣ w :=
      Int.natCast_dvd.mpr (hw ▸ Dvd.dvd.mul_left (pow_dvd_pow 2 hle) q)
    rw [Nat.cast_pow, Nat.cast_ofNat, mul_comm _ k, hscale]
    obtain ⟨hnear, htie⟩ := roundEven_nearest n hD k
    exact ⟨hnear, fun hdist hne => htie hdist fun hk => hne (by rw [hk]; rfl)⟩
  · have hlow := (roundEven_nearest n hD (2 ^ 52)).1
    have hnorm := le_of_quantumShift_pos (Nat.zero_lt_of_lt hlt)
    have hmag : 2 * (w.natAbs * d) < 2 ^ 53 * (d * 2 ^ quantumShift n d) :=
      calc 2 * (w.natAbs * d) = q * 2 ^ (e + 1) * d := by rw [hw, pow_succ]; ring
        _ ≤ q * 2 ^ quantumShift n d * d :=
          Nat.mul_le_mul_right d (Nat.mul_le_mul_left q (Nat.pow_le_pow_right Nat.two_pos hlt))
        _ = q * (d * 2 ^ quantumShift n d) := by ring
        _ < 2 ^ 53 * (d * 2 ^ quantumShift n d) := Nat.mul_lt_mul_of_pos_right hq hD
    have hwd : w * d ≤ (w.natAbs * d : Nat) := by
      rw [Nat.cast_mul]
      exact Int.mul_le_mul_of_nonneg_right Int.le_natAbs (Int.natCast_nonneg d)
    have hfar : distUnits n (d * 2 ^ quantumShift n d) (2 ^ 52) < distUnits n d w := by
      rw [distUnits, distUnits]
      omega
    exact ⟨(hlow.trans_lt hfar).le, fun hdist => absurd hdist (hlow.trans_lt hfar).ne⟩

end Sys2Proof.Machine

/-! The four operations on finite operands as one rounding of the exact result (spec rule R100). -/

namespace Sys2Proof.Machine

/-! ## Signed magnitudes -/

/-- The sign a sign bit stands for. -/
def signOf (neg : Bool) : Int := if neg then -1 else 1

theorem signOf_bne (a b : Bool) : signOf (a != b) = signOf a * signOf b := by cases a <;> cases b <;> rfl

theorem signOf_mul_self (neg : Bool) : signOf neg * signOf neg = 1 := by cases neg <;> rfl

theorem natAbs_signOf_mul (neg : Bool) (z : Int) : (signOf neg * z).natAbs = z.natAbs := by
  cases neg <;> simp [signOf]

theorem f64Int_eq (x : RealWord) : f64Int x = signOf (f64Sign x) * f64Mag x := by
  rw [f64Int, signOf]
  cases f64Sign x <;> simp

theorem signOf_decide_neg (z : Int) : signOf (decide (z < 0)) * z.natAbs = z := by
  rw [signOf]
  simp only [decide_eq_true_eq]
  split <;> omega

/-! ## The rounding of a rational number -/

/-- `r` is the rational number `q` rounded once (rule R100): below the overflow midpoint a finite value, no other nearer to q,
and of even fraction when another is as near; from the midpoint on the infinity of q's sign. -/
def IsRoundingOf (r : RealWord) (q : ℚ) : Prop :=
  (|q| < (2 ^ 54 - 1) * 2 ^ 970 → f64IsFinite r = true ∧ ∀ z : RealWord, f64IsFinite z = true →
    |f64Value r - q| ≤ |f64Value z - q| ∧
    (|f64Value r - q| = |f64Value z - q| → f64Value z ≠ f64Value r → f64Frac r % 2 = 0)) ∧
  ((2 ^ 54 - 1) * 2 ^ 970 ≤ |q| → f64IsInf r = true ∧ (f64Sign r = true ↔ q < 0))

/-- The rational number of sign `neg` and magnitude n / d units. -/
def unitsValue (neg : Bool) (n d : Nat) : ℚ := signOf neg * n / (d * f64One)

theorem cast_f64One_pos : (0 : ℚ) < f64One := Nat.cast_pos.mpr f64One_pos

theorem abs_signOf (neg : Bool) : |(signOf neg : ℚ)| = 1 := by cases neg <;> simp [signOf]

theorem abs_unitsValue (neg : Bool) (n d : Nat) : |unitsValue neg n d| = n / (d * f64One) := by
  have hone := cast_f64One_pos
  rw [unitsValue]
  generalize (f64One : ℚ) = F at hone
  rw [abs_div, abs_mul, abs_signOf, one_mul, Nat.abs_cast, abs_of_nonneg (by positivity)]

/-- The distance of a value from it, in its units. -/
theorem abs_f64Value_sub_unitsValue (z : RealWord) (neg : Bool) (n : Nat) {d : Nat} (hd : 0 < d) :
    |f64Value z - unitsValue neg n d| = distUnits n d (signOf neg * f64Int z) / (d * f64One) := by
  have hone := cast_f64One_pos
  have hd' : (0 : ℚ) < d := Nat.cast_pos.mpr hd
  have hsq : (signOf neg : ℚ) * signOf neg = 1 := by exact_mod_cast signOf_mul_self neg
  have hdist : (distUnits n d (signOf neg * f64Int z) : ℚ) = |(f64Int z : ℚ) * d - signOf neg * n| := by
    have hflip : (f64Int z : ℚ) * d - signOf neg * n = signOf neg * (signOf neg * f64Int z * d - n) := by
      linear_combination (-(f64Int z : ℚ) * d) * hsq
    rw [hflip, abs_mul, abs_signOf, one_mul, distUnits, Nat.cast_natAbs]
    push_cast
    rfl
  rw [hdist, f64Value_eq_div, unitsValue]
  generalize (f64One : ℚ) = F at hone
  rw [← abs_of_pos (mul_pos hd' hone), ← abs_div, abs_of_pos (mul_pos hd' hone)]
  congr 1
  field_simp

theorem overflowUnits_pos : 0 < overflowUnits := by
  rw [overflowUnits]
  exact Nat.mul_pos (by decide) (pow_pos Nat.two_pos _)

theorem overflow_eq : ((2 : ℚ) ^ 54 - 1) * 2 ^ 970 * f64One = (overflowUnits : Nat) := by
  rw [cast_f64One, mul_assoc, ← pow_add, overflowUnits, Nat.cast_mul, Nat.cast_pow]
  norm_num

theorem abs_unitsValue_lt_iff (neg : Bool) (n : Nat) {d : Nat} (hd : 0 < d) :
    |unitsValue neg n d| < (2 ^ 54 - 1) * 2 ^ 970 ↔ n < overflowUnits * d := by
  rw [abs_unitsValue, div_lt_iff₀ (mul_pos (Nat.cast_pos.mpr hd) cast_f64One_pos), mul_comm (d : ℚ), ← mul_assoc, overflow_eq,
    ← Nat.cast_mul, Nat.cast_lt]

theorem unitsValue_neg_iff (neg : Bool) {n d : Nat} (hn : 0 < n) (hd : 0 < d) : unitsValue neg n d < 0 ↔ neg = true := by
  have hquot : (0 : ℚ) < n / (d * f64One) :=
    div_pos (Nat.cast_pos.mpr hn) (mul_pos (Nat.cast_pos.mpr hd) cast_f64One_pos)
  rw [unitsValue, mul_div_assoc]
  generalize (n : ℚ) / (d * f64One) = Q at hquot
  cases neg
  · simpa [signOf] using hquot.le
  · simpa [signOf] using hquot

/-- The pattern the operations build is the rounding of the value its sign and units stand for. -/
theorem isRoundingOf_pack (neg : Bool) (n : Nat) {d : Nat} (hd : 0 < d) :
    IsRoundingOf (f64Pack neg (roundUnits n d)) (unitsValue neg n d) := by
  rw [IsRoundingOf, ← not_lt, abs_unitsValue_lt_iff neg n hd]
  refine ⟨fun hlt => ?_, fun hge => ?_⟩
  · obtain ⟨q, e, hqe, hround, hval, heven⟩ := exists_canonical_roundUnits hd hlt
    rw [hround]
    refine ⟨f64IsFinite_pack neg hqe.bits_lt, fun z hz => ?_⟩
    have hint : signOf neg * f64Int (f64Pack neg (e * 2 ^ 52 + q)) = (roundedSig n d * 2 ^ quantumShift n d : Nat) := by
      rw [f64Int_eq, f64Sign_pack _ (hqe.bits_lt.trans f64InfMag_lt), hqe.f64Mag_pack, hval, ← mul_assoc, signOf_mul_self,
        one_mul]
    obtain ⟨q', e', ⟨hq', -, -⟩, hmag, -⟩ := exists_canonical_of_finite hz
    obtain ⟨hnear, htie⟩ := roundedSig_nearest (n := n) (w := signOf neg * f64Int z) hd hq'
      (by rw [natAbs_signOf_mul, f64Int_natAbs, hmag])
    have hunit : (0 : ℚ) < d * f64One := mul_pos (Nat.cast_pos.mpr hd) cast_f64One_pos
    rw [abs_f64Value_sub_unitsValue _ neg n hd, abs_f64Value_sub_unitsValue _ neg n hd, hint, div_le_div_iff_of_pos_right hunit,
      div_left_inj' hunit.ne', Nat.cast_le, Nat.cast_inj]
    refine ⟨hnear, fun hdist hne => ?_⟩
    have heven' : q % 2 = 0 := heven (htie hdist fun hw => hne ?_)
    · rw [f64Frac_pack _ (hqe.bits_lt.trans f64InfMag_lt)]
      omega
    · have hz : f64Int z = f64Int (f64Pack neg (e * 2 ^ 52 + q)) := by
        rw [← one_mul (f64Int z), ← one_mul (f64Int (f64Pack _ _)), ← signOf_mul_self neg, mul_assoc, mul_assoc, hw, hint]
      rw [f64Value, hz, f64Value]
  · have hn : 0 < n := (Nat.mul_pos overflowUnits_pos hd).trans_le (not_lt.mp hge)
    obtain ⟨hinf, hsign⟩ := f64IsInf_f64Inf neg
    rw [roundUnits_of_overflow hd (not_lt.mp hge), unitsValue_neg_iff neg hn hd]
    exact ⟨hinf, iff_of_eq (congrArg (· = true) hsign)⟩

/-! ## The four operations -/

section
variable (nan : RealWord) {x y : RealWord} (hx : f64IsFinite x = true) (hy : f64IsFinite y = true)
include hx hy

theorem isRoundingOf_f64Add : IsRoundingOf (f64Add nan x y) (f64Value x + f64Value y) := by
  have hsum : f64Value x + f64Value y = ((f64Int x + f64Int y : Int) : ℚ) / f64One := by
    rw [f64Value_eq_div, f64Value_eq_div, ← add_div, Int.cast_add]
  rw [f64Add_of_finite nan hx hy, hsum]
  generalize f64Int x + f64Int y = t
  split
  case isTrue h =>
    have hzero := isRoundingOf_pack (f64Sign x && f64Sign y) 0 Nat.one_pos
    rw [roundUnits_zero Nat.one_pos, unitsValue, Nat.cast_zero, mul_zero, zero_div] at hzero
    rwa [h, Int.cast_zero, zero_div]
  case isFalse h =>
    have hround := isRoundingOf_pack (decide (t < 0)) t.natAbs Nat.one_pos
    have hval : unitsValue (decide (t < 0)) t.natAbs 1 = (t : ℚ) / f64One := by
      rw [unitsValue, Nat.cast_one, one_mul]
      rw [← Int.cast_natCast, ← Int.cast_mul, signOf_decide_neg]
    rwa [hval] at hround

theorem isRoundingOf_f64Sub : IsRoundingOf (f64Sub nan x y) (f64Value x - f64Value y) := by
  have hneg : f64Value (f64Neg y) = -f64Value y := by rw [f64Value_eq_div, f64Value_eq_div, f64Int_neg, Int.cast_neg, neg_div]
  rw [sub_eq_add_neg, ← hneg]
  exact isRoundingOf_f64Add nan hx (by rwa [f64IsFinite_neg])

theorem isRoundingOf_f64Mul : IsRoundingOf (f64Mul nan x y) (f64Value x * f64Value y) := by
  have hval : f64Value x * f64Value y = unitsValue (f64Sign x != f64Sign y) (f64Mag x * f64Mag y) f64One := by
    rw [f64Value_eq_div, f64Value_eq_div, f64Int_eq, f64Int_eq, unitsValue, signOf_bne, div_mul_div_comm]
    push_cast
    ring
  rw [f64Mul_of_finite nan hx hy, hval]
  exact isRoundingOf_pack _ _ f64One_pos

theorem isRoundingOf_f64Div (hy0 : f64IsZero y = false) : IsRoundingOf (f64Div nan x y) (f64Value x / f64Value y) := by
  have hval : f64Value x / f64Value y = unitsValue (f64Sign x != f64Sign y) (f64Mag x * f64One) (f64Mag y) := by
    have hone := cast_f64One_pos
    have hmag : (0 : ℚ) < f64Mag y := Nat.cast_pos.mpr (f64Mag_pos hy0)
    have hsq : (signOf (f64Sign y) : ℚ) * signOf (f64Sign y) = 1 := by exact_mod_cast signOf_mul_self _
    rw [f64Value_eq_div, f64Value_eq_div, f64Int_eq, f64Int_eq, unitsValue, signOf_bne, div_div_div_cancel_right₀ hone.ne']
    push_cast
    rw [div_eq_div_iff (mul_ne_zero (left_ne_zero_of_mul_eq_one hsq) hmag.ne') (mul_pos hmag hone).ne']
    linear_combination (-(signOf (f64Sign x) : ℚ) * f64Mag x * f64Mag y * f64One) * hsq
  rw [f64Div_of_finite nan hx hy hy0, hval]
  exact isRoundingOf_pack _ _ (f64Mag_pos hy0)

end

/-- Settles O49: each operation packs the rounding of its exact result. -/
theorem operationsRoundToNearestEven : Obligations.OperationsRoundToNearestEven := by
  intro nan x y hx hy r q h
  obtain ⟨rfl, rfl⟩ | ⟨rfl, rfl⟩ | ⟨rfl, rfl⟩ | ⟨rfl, hy0, rfl⟩ := h
  · exact isRoundingOf_f64Add nan hx hy
  · exact isRoundingOf_f64Sub nan hx hy
  · exact isRoundingOf_f64Mul nan hx hy
  · exact isRoundingOf_f64Div nan hx hy hy0

end Sys2Proof.Machine
